-- ==== Sys2Proof/Word.lean ====
section
/-! DEFINITION. The integer types of the block (00_scope.md R11) and the command and response words (30_encoding.md R90, R91).
Every register content is a bit vector; the numbers it stands for are read by `toNat` (U types) or `toInt` (S types). -/

namespace Sys2Proof

/-- U8 of R11: counters, sample counts, bytes of the register file. -/
abbrev U8 := BitVec 8

/-- U32 of R11: frequencies, top and compare values, timers and timeouts; and an operand field as it stands in the command word. -/
abbrev U32 := BitVec 32

/-- S32 of R11: the 32-bit two's-complement pattern of a temperature, error, gain or output. -/
abbrev S32 := BitVec 32

/-- S40 of R11: `sensor.accumulator` only. -/
abbrev S40 := BitVec 40

/-- The 72-bit command word of R90. -/
abbrev CmdWord := BitVec 72

/-- The 40-bit response word of R91. -/
abbrev RspWord := BitVec 40

end Sys2Proof
end

