-- ==== Sys2Proof/Config.lean ====
section
/-! DEFINITION. The configuration record `CFG` (00_scope.md R9), the quantities the spec fixes (R10), and the free values of the model:
opaque constants with no body, so that nothing can be proved of the value they stand for. -/

namespace Sys2Proof

/-- The configuration record `CFG` of R9, one field per row of its table. It is a constant of the instance: the State carries it as
the argument R9 asks for, and no step writes it (assumption log 1). -/
structure Cfg where
  /-- `CFG_CLK_HZ`, U32. -/
  clkHz : U32
  /-- `CFG_PWM_PRESCALE`, U32. -/
  pwmPrescale : U32
  /-- `CFG_PWM_MIN_RES`, U32. -/
  pwmMinRes : U32
  /-- `CFG_PWM_MAX_RES`, U32. -/
  pwmMaxRes : U32
  /-- `CFG_PWM_FREQ_HZ`, U32. -/
  pwmFreqHz : U32
  /-- `CFG_SNS_CHANNEL`, U8. -/
  snsChannel : U8
  /-- `CFG_SNS_SPR`, U8. -/
  snsSpr : U8
  /-- `CFG_SNS_RETRIES`, U8. -/
  snsRetries : U8
  /-- `CFG_SNS_VARIANCE`, S32 T-format. -/
  snsVariance : S32
  /-- `CFG_SNS_DISCONNECT`, S32 T-format. -/
  snsDisconnect : S32
  /-- `CFG_SNS_NOPOWER`, S32 T-format. -/
  snsNopower : S32
  /-- `CFG_SNS_SUN`, S32 T-format. -/
  snsSun : S32
  /-- `CFG_PID_KP`, S32 G-format. -/
  pidKp : S32
  /-- `CFG_PID_KI`, S32 G-format. -/
  pidKi : S32
  /-- `CFG_PID_KD`, S32 G-format. -/
  pidKd : S32
  /-- `CFG_PID_OUT_MIN`, S32 P-format. -/
  pidOutMin : S32
  /-- `CFG_PID_OUT_MAX`, S32 P-format. -/
  pidOutMax : S32
  /-- `CFG_PID_EPSILON`, S32 T-format. -/
  pidEpsilon : S32
  /-- `CFG_HTR_AMBIENT_TIMEOUT`, U32 heater ticks. -/
  htrAmbientTimeout : U32
  /-- `CFG_HTR_REG_TIMEOUT`, U32 heater ticks. -/
  htrRegTimeout : U32
  /-- `CFG_HTR_AMBIENT_TEMP`, S32 T-format. -/
  htrAmbientTemp : S32
  /-- `CFG_HTR_OVERHEAT_TEMP`, S32 T-format; no rule reads the field it loads (10_state.md R37). -/
  htrOverheatTemp : S32
deriving DecidableEq, Repr

/-- The default column of R9's table. No rule depends on it. -/
def Cfg.default : Cfg where
  clkHz := 16000000
  pwmPrescale := 64
  pwmMinRes := 20
  pwmMaxRes := 255
  pwmFreqHz := 1000
  snsChannel := 0
  snsSpr := 4
  snsRetries := 3
  snsVariance := 50
  snsDisconnect := 40000
  snsNopower := BitVec.ofInt 32 (-500)
  snsSun := 550500
  pidKp := 200
  pidKi := 0
  pidKd := 0
  pidOutMin := 0
  pidOutMax := 10000
  pidEpsilon := 10
  htrAmbientTimeout := 900
  htrRegTimeout := 3000
  htrAmbientTemp := 4000
  htrOverheatTemp := 30000

/-- `TICKS_PER_100MS` of R10. -/
def Config.ticksPer100ms : U8 := 10

/-- `HUNDREDS_PER_1S` of R10. -/
def Config.hundredsPer1s : U8 := 10

/-- `REG_SIZE` of R10 and 20_memory.md R70: the bytes of the host register file. -/
def Config.regSize : Nat := 24

/-- FREE VALUE (41_sensor.md R131, I2; assumption log 2): the answer of the raw sample source on a channel, one for each request that
the run's queue does not answer. Any S32. -/
opaque Config.rawSample : U8 → Nat → S32

/-- FREE VALUE (R13; assumption log 3): the value of `fdiv(a, 0)`, which the spec does not define and no well-formed `CFG` asks for. -/
opaque Config.fdivByZero : Nat → Nat

/-- FREE VALUE (R13; assumption log 3): the value of `tdiv(a, 0)`, which the spec does not define and no operation asks for. -/
opaque Config.tdivByZero : Int → Int

/-- FREE VALUE (I5, I6; assumption log 11): the fraction of each period the external driver makes active when the compare value exceeds
the top-value, by compare and top. -/
opaque Config.pinAboveTop : Nat → Nat → ℚ

end Sys2Proof
end

