-- ==== Sys2Proof/Syntax.lean ====
section
/-! DEFINITION. The operations of the block, one constructor per row of spec/opcode_table.json (30_encoding.md R93), with their
operands as the command word carries them (R92). -/

namespace Sys2Proof

/-- The 18 operations of R93. An operand is the 32-bit field of the command word; R92 says how each operation reads it. -/
inductive Instr where
  /-- DEVINIT, opcode 0x01, R116. -/
  | devinit
  /-- TICKQ, opcode 0x02, R111. -/
  | tickq
  /-- POLL, opcode 0x03, R112. -/
  | poll
  /-- SNS_INIT, opcode 0x10, R130. -/
  | snsInit
  /-- SNS_START, opcode 0x11, R133. -/
  | snsStart
  /-- SNS_CB, opcode 0x12, R134. -/
  | snsCb
  /-- PID_INIT, opcode 0x20, R150. -/
  | pidInit
  /-- PID_COMPUTE, opcode 0x21, R151: A = setpoint, B = measured, both S32 T-format. -/
  | pidCompute (setpoint measured : S32)
  /-- HTR_INIT, opcode 0x30, R170. -/
  | htrInit
  /-- HTR_ON, opcode 0x31, R171. -/
  | htrOn
  /-- HTR_OFF, opcode 0x32, R172. -/
  | htrOff
  /-- HTR_CB, opcode 0x33, R173. -/
  | htrCb
  /-- PWM_FREQ, opcode 0x40, R191: A = frequency, U32 Hz. -/
  | pwmFreq (hz : U32)
  /-- PWM_DUTY, opcode 0x41, R192: A = percent, S32 P-format. -/
  | pwmDuty (percent : S32)
  /-- REGRD, opcode 0x50, R200: A = local address, all 32 bits significant. -/
  | regrd (addr : U32)
  /-- REGWR, opcode 0x51, R201: A = local address, B = the byte in `B[7:0]`; `B[31:8]` is ignored by the operation (R92). -/
  | regwr (addr b : U32)
  /-- FLDRD, opcode 0x60, R205: A = field id, all 32 bits significant. -/
  | fldrd (id : U32)
  /-- CFGWR, opcode 0x61, R206: A = field id, B = the value. -/
  | cfgwr (id value : U32)
deriving DecidableEq, Repr

/-- The three formats of R90. -/
inductive Format where
  /-- N: neither operand field is used. -/
  | n
  /-- A: operand field A is used. -/
  | a
  /-- AB: both operand fields are used. -/
  | ab
deriving DecidableEq, Repr

/-- The format column of R93. -/
def Instr.format : Instr → Format
  | .devinit => .n
  | .tickq => .n
  | .poll => .n
  | .snsInit => .n
  | .snsStart => .n
  | .snsCb => .n
  | .pidInit => .n
  | .pidCompute _ _ => .ab
  | .htrInit => .n
  | .htrOn => .n
  | .htrOff => .n
  | .htrCb => .n
  | .pwmFreq _ => .a
  | .pwmDuty _ => .a
  | .regrd _ => .a
  | .regwr _ _ => .ab
  | .fldrd _ => .a
  | .cfgwr _ _ => .ab

/-- The mnemonic column of R93. -/
def Instr.mnemonic : Instr → String
  | .devinit => "DEVINIT"
  | .tickq => "TICKQ"
  | .poll => "POLL"
  | .snsInit => "SNS_INIT"
  | .snsStart => "SNS_START"
  | .snsCb => "SNS_CB"
  | .pidInit => "PID_INIT"
  | .pidCompute _ _ => "PID_COMPUTE"
  | .htrInit => "HTR_INIT"
  | .htrOn => "HTR_ON"
  | .htrOff => "HTR_OFF"
  | .htrCb => "HTR_CB"
  | .pwmFreq _ => "PWM_FREQ"
  | .pwmDuty _ => "PWM_DUTY"
  | .regrd _ => "REGRD"
  | .regwr _ _ => "REGWR"
  | .fldrd _ => "FLDRD"
  | .cfgwr _ _ => "CFGWR"

/-- Of the 18 operations the host can cause REGRD and REGWR and no other (60_exceptions.md R232). The block does not check it:
the communication layer outside the block does. -/
def Instr.hostMayIssue : Instr → Bool
  | .devinit => false
  | .tickq => false
  | .poll => false
  | .snsInit => false
  | .snsStart => false
  | .snsCb => false
  | .pidInit => false
  | .pidCompute _ _ => false
  | .htrInit => false
  | .htrOn => false
  | .htrOff => false
  | .htrCb => false
  | .pwmFreq _ => false
  | .pwmDuty _ => false
  | .regrd _ => true
  | .regwr _ _ => true
  | .fldrd _ => false
  | .cfgwr _ _ => false

end Sys2Proof
end

