-- ==== Sys2Proof/WellFormed.lean ====
section
/-! DEFINITION. What the spec calls well formed: a `CFG` (00_scope.md R9) and an operation as an assembler writes it (30_encoding.md R94). -/

namespace Sys2Proof

/-- The well-formedness conditions of R9: `CFG_CLK_HZ >= 1`, `CFG_PWM_PRESCALE >= 1`,
`1 <= CFG_PWM_MIN_RES <= CFG_PWM_MAX_RES <= 65535`. No other condition is required. -/
def Cfg.wellFormed (c : Cfg) : Bool :=
  decide (1 ≤ c.clkHz.toNat) && decide (1 ≤ c.pwmPrescale.toNat) && decide (1 ≤ c.pwmMinRes.toNat) &&
    decide (c.pwmMinRes.toNat ≤ c.pwmMaxRes.toNat) && decide (c.pwmMaxRes.toNat ≤ 65535)

/-- An operation as an assembler writes it: the operand bits that the operation ignores are zero (R94). The operand bits a format does
not use are not in `Instr` at all, so the one check is `B[31:8]` of REGWR. Every other operand value is accepted (R92, R94). -/
def Instr.wellFormed : Instr → Bool
  | .devinit => true
  | .tickq => true
  | .poll => true
  | .snsInit => true
  | .snsStart => true
  | .snsCb => true
  | .pidInit => true
  | .pidCompute _ _ => true
  | .htrInit => true
  | .htrOn => true
  | .htrOff => true
  | .htrCb => true
  | .pwmFreq _ => true
  | .pwmDuty _ => true
  | .regrd _ => true
  | .regwr _ b => decide (b.toNat < 256)
  | .fldrd _ => true
  | .cfgwr _ _ => true

end Sys2Proof
end

