-- ==== Sys2Proof/Decode.lean ====
section
/-! DEFINITION. The command word (30_encoding.md R90): its fields, the decoder, total on any 72 bits (R97), and the encoder. -/

namespace Sys2Proof

/-- `op = cmd[71:64]` of R90. -/
def cmdOp (w : CmdWord) : BitVec 8 := w.extractLsb' 64 8

/-- `A = cmd[63:32]` of R90. -/
def cmdA (w : CmdWord) : U32 := w.extractLsb' 32 32

/-- `B = cmd[31:0]` of R90. -/
def cmdB (w : CmdWord) : U32 := w.extractLsb' 0 32

/-- What the decoder reads from a command word: an operation, or an opcode byte outside R93 (R95), named. -/
inductive Decoded where
  /-- The opcode is a row of R93. -/
  | instr (i : Instr)
  /-- The opcode byte is one of the 238 illegal ones of R95. -/
  | illegalOp (op : BitVec 8)
deriving DecidableEq, Repr

/-- Decode procedure of R97: the opcode byte alone selects the operation; operand fields its format does not use are dropped (R94). -/
def decode (w : CmdWord) : Decoded :=
  match cmdOp w with
  | 0x01#8 => .instr .devinit
  | 0x02#8 => .instr .tickq
  | 0x03#8 => .instr .poll
  | 0x10#8 => .instr .snsInit
  | 0x11#8 => .instr .snsStart
  | 0x12#8 => .instr .snsCb
  | 0x20#8 => .instr .pidInit
  | 0x21#8 => .instr (.pidCompute (cmdA w) (cmdB w))
  | 0x30#8 => .instr .htrInit
  | 0x31#8 => .instr .htrOn
  | 0x32#8 => .instr .htrOff
  | 0x33#8 => .instr .htrCb
  | 0x40#8 => .instr (.pwmFreq (cmdA w))
  | 0x41#8 => .instr (.pwmDuty (cmdA w))
  | 0x50#8 => .instr (.regrd (cmdA w))
  | 0x51#8 => .instr (.regwr (cmdA w) (cmdB w))
  | 0x60#8 => .instr (.fldrd (cmdA w))
  | 0x61#8 => .instr (.cfgwr (cmdA w) (cmdB w))
  | op => .illegalOp op

/-- `op ‖ A ‖ B` of R90. -/
def cmdWord (op : BitVec 8) (a b : U32) : CmdWord := (op ++ a ++ b : BitVec (8 + 32 + 32))

/-- The opcode column of R93. -/
def Instr.opcode : Instr → BitVec 8
  | .devinit => 0x01
  | .tickq => 0x02
  | .poll => 0x03
  | .snsInit => 0x10
  | .snsStart => 0x11
  | .snsCb => 0x12
  | .pidInit => 0x20
  | .pidCompute _ _ => 0x21
  | .htrInit => 0x30
  | .htrOn => 0x31
  | .htrOff => 0x32
  | .htrCb => 0x33
  | .pwmFreq _ => 0x40
  | .pwmDuty _ => 0x41
  | .regrd _ => 0x50
  | .regwr _ _ => 0x51
  | .fldrd _ => 0x60
  | .cfgwr _ _ => 0x61

/-- The A and B fields of the command word: the operands of the operation, and zero in a field its format does not use (R94). B of
REGWR is written as the constructor holds it (assumption log 16); `Machine.regwrByte` is the REGWR an assembler writes, `B[31:8]` zero. -/
def Instr.fields : Instr → U32 × U32
  | .devinit => (0, 0)
  | .tickq => (0, 0)
  | .poll => (0, 0)
  | .snsInit => (0, 0)
  | .snsStart => (0, 0)
  | .snsCb => (0, 0)
  | .pidInit => (0, 0)
  | .pidCompute a b => (a, b)
  | .htrInit => (0, 0)
  | .htrOn => (0, 0)
  | .htrOff => (0, 0)
  | .htrCb => (0, 0)
  | .pwmFreq a => (a, 0)
  | .pwmDuty a => (a, 0)
  | .regrd a => (a, 0)
  | .regwr a b => (a, b)
  | .fldrd a => (a, 0)
  | .cfgwr a b => (a, b)

/-- The command word of an operation (R90, R93, R94). -/
def encode (i : Instr) : CmdWord := cmdWord i.opcode i.fields.1 i.fields.2

/-- The operand bits of the command word that a format uses (R90); the others are ignored (R94). -/
def Format.operandMask : Format → CmdWord
  | .n => 0x00_00000000_00000000
  | .a => 0x00_FFFFFFFF_00000000
  | .ab => 0x00_FFFFFFFF_FFFFFFFF

/-- The command word whose 72 bits are `w`, when it has no bit above them. The table gives every row 72 bits, one command word of R90
(assumption log 15). -/
def tableWord (nbits w : Nat) : CmdWord := BitVec.ofNat 72 (w % 2 ^ nbits)

/-- The operation the decoder reads from the table's bits of a row; none for an illegal opcode and for bits past the one length there
is (R98). -/
def decodeTableWord (nbits w : Nat) : Option Instr :=
  if w % 2 ^ nbits < 2 ^ 72 then
    match decode (tableWord nbits w) with
    | .instr i => some i
    | .illegalOp _ => none
  else none

end Sys2Proof
end

