-- ==== Sys2Proof/Machine/State.lean ====
section
/-! DEFINITION. The state of the block (10_state.md), as plain data: the five structures of R22 to R58, the event trace of R62, the
response word of R91, and what surrounds the block in a run (R17): the elements still to come and the answers of the sample source. -/

namespace Sys2Proof.Machine

/-- `pwm.mode` of R28. -/
inductive PwmMode where
  /-- 0 = `PWM_OFF`, output fully off. -/
  | off
  /-- 1 = `PWM_RUN`, output follows compare/top. -/
  | run
  /-- 2 = `PWM_ON`, output fully on. -/
  | on
deriving DecidableEq, Repr

/-- `heater.state` of R29. -/
inductive HeaterState where
  /-- 0 = `H_UNINIT`. -/
  | uninit
  /-- 1 = `H_OFF`. -/
  | off
  /-- 2 = `H_ON`. -/
  | on
  /-- 3 = `H_HEATING`. -/
  | heating
  /-- 4 = `H_AT_TEMPERATURE`; no rule enters it (R180). -/
  | atTemperature
  /-- 5 = `H_COOLING`; no rule enters it (R180). -/
  | cooling
  /-- 6 = `H_SHUTDOWN`. -/
  | shutdown
deriving DecidableEq, Repr

/-- `heater.code` of R30. -/
inductive HeaterCode where
  /-- 0 = `HC_OK`. -/
  | ok
  /-- 1 = `HC_AMBIENT_TIMED_OUT`. -/
  | ambientTimedOut
  /-- 2 = `HC_REGULATION_TIMED_OUT`. -/
  | regulationTimedOut
deriving DecidableEq, Repr

/-- `sensor.state` of R38. -/
inductive SensorState where
  /-- 0 = `S_UNINIT`. -/
  | uninit
  /-- 1 = `S_HAS_NO_DATA`. -/
  | hasNoData
  /-- 2 = `S_HAS_DATA`. -/
  | hasData
  /-- 3 = `S_SHUTDOWN`. -/
  | shutdown
deriving DecidableEq, Repr

/-- `sensor.code` of R39. -/
inductive SensorCode where
  /-- 0 = `SC_OK`. -/
  | ok
  /-- 1 = `SC_DISCONNECTED`. -/
  | disconnected
  /-- 2 = `SC_NO_POWER`. -/
  | noPower
  /-- 3 = `SC_BAD_READINGS`. -/
  | badReadings
deriving DecidableEq, Repr

/-- Device, ids 0x00 to 0x03. -/
structure Device where
  /-- `dev.tick_flag`, U1: a tick is pending (R22). -/
  tickFlag : Bool
  /-- `dev.cnt_100ms`, U8: down-counter of the 100 ms cadence (R23). -/
  cnt100ms : U8
  /-- `dev.cnt_1s`, U8: down-counter of the 1 s cadence (R24). -/
  cnt1s : U8
  /-- `dev.pwm_freq`, U32 Hz: the last-programmed effective frequency (R25). -/
  pwmFreq : U32
deriving DecidableEq, Repr

/-- PWM, ids 0x04 to 0x06. -/
structure Pwm where
  /-- `pwm.top`, U32: the top-value (R26). -/
  top : U32
  /-- `pwm.compare`, U32: the compare value (R27). -/
  compare : U32
  /-- `pwm.mode` (R28). -/
  mode : PwmMode
deriving DecidableEq, Repr

/-- Heater, ids 0x10 to 0x18. -/
structure Heater where
  /-- `heater.state` (R29). -/
  state : HeaterState
  /-- `heater.code` (R30). -/
  code : HeaterCode
  /-- `heater.temperature`, S32 T-format (R31). -/
  temperature : S32
  /-- `heater.setpoint`, S32 T-format (R32). -/
  setpoint : S32
  /-- `heater.regulation_timer`, U32 heater ticks (R33). -/
  regulationTimer : U32
  /-- `heater.ambient_timeout`, U32 heater ticks (R34). -/
  ambientTimeout : U32
  /-- `heater.regulation_timeout`, U32 heater ticks (R35). -/
  regulationTimeout : U32
  /-- `heater.ambient_temperature`, S32 T-format (R36). -/
  ambientTemperature : S32
  /-- `heater.overheat_temperature`, S32 T-format; read by no rule of the block but FLDRD (R37). -/
  overheatTemperature : S32
deriving DecidableEq, Repr

/-- Sensor, ids 0x20 to 0x2B. -/
structure Sensor where
  /-- `sensor.state` (R38). -/
  state : SensorState
  /-- `sensor.code` (R39). -/
  code : SensorCode
  /-- `sensor.spr`, U8: samples per reading (R40). -/
  spr : U8
  /-- `sensor.samples`, U8: samples collected in the current period (R41). -/
  samples : U8
  /-- `sensor.retries`, U8: the retry budget (R42). -/
  retries : U8
  /-- `sensor.temperature`, S32 T-format: the last validated temperature (R43). -/
  temperature : S32
  /-- `sensor.previous`, S32 T-format: the previous accepted sample (R44). -/
  previous : S32
  /-- `sensor.accumulator`, S40: sum of the samples of the current period (R45). -/
  accumulator : S40
  /-- `sensor.variance`, S32 T-format (R46). -/
  variance : S32
  /-- `sensor.disconnect_temperature`, S32 T-format (R47). -/
  disconnectTemperature : S32
  /-- `sensor.nopower_temperature`, S32 T-format (R48). -/
  nopowerTemperature : S32
deriving DecidableEq, Repr

/-- PID, ids 0x30 to 0x39. -/
structure Pid where
  /-- `pid.error`, S32 T-format (R49). -/
  error : S32
  /-- `pid.prev_error`, S32 T-format (R50). -/
  prevError : S32
  /-- `pid.integral`, S32 I-format (R51). -/
  integral : S32
  /-- `pid.derivative`, S32 V-format (R52). -/
  derivative : S32
  /-- `pid.output`, S32 P-format (R53). -/
  output : S32
  /-- `pid.kp`, S32 G-format (R54). -/
  kp : S32
  /-- `pid.ki`, S32 G-format (R55). -/
  ki : S32
  /-- `pid.kd`, S32 G-format (R56). -/
  kd : S32
  /-- `pid.out_min`, S32 P-format (R57). -/
  outMin : S32
  /-- `pid.out_max`, S32 P-format (R58). -/
  outMax : S32
deriving DecidableEq, Repr

/-- The state fields by name, one constructor per row of R59's table. -/
inductive Field where
  /-- 0x00 `dev.tick_flag`. -/
  | devTickFlag
  /-- 0x01 `dev.cnt_100ms`. -/
  | devCnt100ms
  /-- 0x02 `dev.cnt_1s`. -/
  | devCnt1s
  /-- 0x03 `dev.pwm_freq`. -/
  | devPwmFreq
  /-- 0x04 `pwm.top`. -/
  | pwmTop
  /-- 0x05 `pwm.compare`. -/
  | pwmCompare
  /-- 0x06 `pwm.mode`. -/
  | pwmMode
  /-- 0x10 `heater.state`. -/
  | htrState
  /-- 0x11 `heater.code`. -/
  | htrCode
  /-- 0x12 `heater.temperature`. -/
  | htrTemperature
  /-- 0x13 `heater.setpoint`. -/
  | htrSetpoint
  /-- 0x14 `heater.regulation_timer`. -/
  | htrRegulationTimer
  /-- 0x15 `heater.ambient_timeout`. -/
  | htrAmbientTimeout
  /-- 0x16 `heater.regulation_timeout`. -/
  | htrRegulationTimeout
  /-- 0x17 `heater.ambient_temperature`. -/
  | htrAmbientTemperature
  /-- 0x18 `heater.overheat_temperature`. -/
  | htrOverheatTemperature
  /-- 0x20 `sensor.state`. -/
  | snsState
  /-- 0x21 `sensor.code`. -/
  | snsCode
  /-- 0x22 `sensor.spr`. -/
  | snsSpr
  /-- 0x23 `sensor.samples`. -/
  | snsSamples
  /-- 0x24 `sensor.retries`. -/
  | snsRetries
  /-- 0x25 `sensor.temperature`. -/
  | snsTemperature
  /-- 0x26 `sensor.previous`. -/
  | snsPrevious
  /-- 0x27 `sensor.accumulator` bits 31..0. -/
  | snsAccLo
  /-- 0x28 `sensor.accumulator` bits 39..32, sign-extended. -/
  | snsAccHi
  /-- 0x29 `sensor.variance`. -/
  | snsVariance
  /-- 0x2A `sensor.disconnect_temperature`. -/
  | snsDisconnect
  /-- 0x2B `sensor.nopower_temperature`. -/
  | snsNopower
  /-- 0x30 `pid.error`. -/
  | pidError
  /-- 0x31 `pid.prev_error`. -/
  | pidPrevError
  /-- 0x32 `pid.integral`. -/
  | pidIntegral
  /-- 0x33 `pid.derivative`. -/
  | pidDerivative
  /-- 0x34 `pid.output`. -/
  | pidOutput
  /-- 0x35 `pid.kp`. -/
  | pidKp
  /-- 0x36 `pid.ki`. -/
  | pidKi
  /-- 0x37 `pid.kd`. -/
  | pidKd
  /-- 0x38 `pid.out_min`. -/
  | pidOutMin
  /-- 0x39 `pid.out_max`. -/
  | pidOutMax
deriving DecidableEq, Repr

/-- The type column of R59's table. -/
inductive FieldType where
  /-- U1. -/
  | u1
  /-- U8. -/
  | u8
  /-- U32. -/
  | u32
  /-- S32. -/
  | s32
  /-- S40, read through two ids. -/
  | s40
deriving DecidableEq, Repr

/-- The status codes of 30_encoding.md R96. -/
inductive Status where
  /-- 0x00 `OK`. -/
  | ok
  /-- 0x01 `INVALID_ADDRESS`. -/
  | invalidAddress
  /-- 0x02 `FAILED`. -/
  | failed
  /-- 0x03 `ILLEGAL_OP`. -/
  | illegalOp
  /-- 0x04 `INVALID_FIELD`. -/
  | invalidField
deriving DecidableEq, Repr

/-- A response word of R91: status and data. -/
structure Response where
  /-- `rsp[39:32]`. -/
  status : Status
  /-- `rsp[31:0]`. -/
  data : U32
deriving DecidableEq, Repr

/-- The events of R62. -/
inductive Event where
  /-- `EV_TICK`: a TICK event set the flag. -/
  | tick
  /-- `EV_10MS`: POLL invoked the 10 ms handler. -/
  | ms10
  /-- `EV_100MS`: POLL invoked the 100 ms handler. -/
  | ms100
  /-- `EV_1S`: POLL invoked the 1 s handler. -/
  | s1
  /-- `EV_SAMPLE(ch, v)`: SNS_CB asked the sample source for channel `ch` and got `v`. -/
  | sample (ch : U8) (v : S32)
  /-- `EV_PWM(mode, top, compare)`: the three values after a PWM_FREQ or PWM_DUTY. -/
  | pwm (mode : PwmMode) (top compare : U32)
deriving DecidableEq, Repr

/-- An element of a run (R17): a command word the sequencer presents, or a TICK event of the tick timer. -/
inductive Input where
  /-- One 72-bit command word (R90). -/
  | command (w : CmdWord)
  /-- One TICK event (R110). -/
  | tick
deriving DecidableEq, Repr

/-- Why a step faults. The type has no constructor: the block has no trap and no operation is stuck (00_scope.md R8, 60_exceptions.md
R220, R229); every failure is a status in the response (R221) or a latched code (R222), and the machine goes on. -/
inductive Fault where
deriving DecidableEq, Repr

/-- Why a step is refused. -/
inductive Refusal where
  /-- An operation that the model has not reached, by its mnemonic. Raised by an arm of `exec` only; no arm raises it. Safe. -/
  | notModelled (mnemonic : String)
deriving DecidableEq, Repr

/-- The state: the block's own fields, what it drives out, and the run that surrounds it. -/
structure State where
  /-- The configuration record of the instance (R9). No step writes it. -/
  cfg : Cfg
  /-- Device. -/
  dev : Device
  /-- PWM. -/
  pwm : Pwm
  /-- Heater. -/
  heater : Heater
  /-- Sensor. -/
  sensor : Sensor
  /-- PID. -/
  pid : Pid
  /-- The event trace of R62, oldest event first. -/
  trace : List Event
  /-- The response word to the latest command (R91); none before the first. -/
  rsp : Option Response
  /-- The elements of the run still to come (R17), the next one first. -/
  inputs : List Input
  /-- The answers of the raw sample source given with the run (R100, R131), the next one first. -/
  sampleQueue : List S32
  /-- The model's own field: how many answers past the queue the raw sample source has given (`Config.rawSample`). -/
  freeDraws : Nat
deriving DecidableEq, Repr

/-- The machine right after hardware reset (70_reset_and_hazards.md R250), for an instance with configuration `c`: every field of R59
holds 0 but the two counters, which hold 10, and the trace is empty. Nothing has been presented to the block yet. -/
def State.resetWith (c : Cfg) : State where
  cfg := c
  dev := { tickFlag := false, cnt100ms := 10, cnt1s := 10, pwmFreq := 0 }
  pwm := { top := 0, compare := 0, mode := .off }
  heater :=
    { state := .uninit, code := .ok, temperature := 0, setpoint := 0, regulationTimer := 0, ambientTimeout := 0,
      regulationTimeout := 0, ambientTemperature := 0, overheatTemperature := 0 }
  sensor :=
    { state := .uninit, code := .ok, spr := 0, samples := 0, retries := 0, temperature := 0, previous := 0,
      accumulator := 0, variance := 0, disconnectTemperature := 0, nopowerTemperature := 0 }
  pid :=
    { error := 0, prevError := 0, integral := 0, derivative := 0, output := 0, kp := 0, ki := 0, kd := 0,
      outMin := 0, outMax := 0 }
  trace := []
  rsp := none
  inputs := []
  sampleQueue := []
  freeDraws := 0

/-- The machine right after reset, for the instance with the default `CFG` of R9's table (assumption log 1). -/
def State.reset : State := State.resetWith Cfg.default

end Sys2Proof.Machine
end

