-- ==== Sys2Proof/Machine/Operands.lean ====
section
/-! DEFINITION. The arithmetic of the block on unbounded integers (00_scope.md R13), the reading of operand fields (30_encoding.md R92)
and the words of the enumerations (10_state.md R28 to R30, R38, R39; 30_encoding.md R96). -/

namespace Sys2Proof.Machine

/-- `s32(w)` of R14: a 32-bit word read as two's complement. -/
def s32 (w : BitVec 32) : Int := w.toInt

/-- `u32(v)` of R14: the 32-bit two's-complement pattern of an integer. -/
def u32 (v : Int) : BitVec 32 := BitVec.ofInt 32 v

/-- `sat32(v)` of R13. -/
def sat32 (v : Int) : Int :=
  if v < -2147483648 then -2147483648 else if v > 2147483647 then 2147483647 else v

/-- `satu32(v)` of R13. -/
def satu32 (v : Int) : Int :=
  if v > 4294967295 then 4294967295 else if v < 0 then 0 else v

/-- `tdiv(a, b)` of R13: the quotient rounded toward zero, defined for `b ≠ 0`; the value at `b = 0` is free. -/
def tdiv (a b : Int) : Int := if b = 0 then Config.tdivByZero a else Int.tdiv a b

/-- `fdiv(a, b)` of R13: the floor quotient for `b > 0`; the value at `b = 0` is free. -/
def fdiv (a b : Nat) : Nat := if b = 0 then Config.fdivByZero a else a / b

/-- `clamp(v, lo, hi)` of R13: the upper bound is tested first. -/
def clamp (v lo hi : Int) : Int := if v > hi then hi else if v < lo then lo else v

/-- `abs` of R13, on mathematical integers. -/
def absInt (v : Int) : Int := if v < 0 then -v else v

/-- `dec(c)` of 40_scheduler.md R112: `c - 1` if `c >= 1` and 0 if `c = 0`. -/
def dec (c : U8) : U8 := if c = 0 then 0 else c - 1

/-- The data byte of REGWR, `B[7:0]` (R92). -/
def dataByte (b : U32) : U8 := b.extractLsb' 0 8

/-- The encoding of `pwm.mode` (R28). -/
def pwmModeWord : PwmMode → U8
  | .off => 0
  | .run => 1
  | .on => 2

/-- The encoding of `heater.state` (R29). -/
def heaterStateWord : HeaterState → U8
  | .uninit => 0
  | .off => 1
  | .on => 2
  | .heating => 3
  | .atTemperature => 4
  | .cooling => 5
  | .shutdown => 6

/-- The encoding of `heater.code` (R30). -/
def heaterCodeWord : HeaterCode → U8
  | .ok => 0
  | .ambientTimedOut => 1
  | .regulationTimedOut => 2

/-- The encoding of `sensor.state` (R38). -/
def sensorStateWord : SensorState → U8
  | .uninit => 0
  | .hasNoData => 1
  | .hasData => 2
  | .shutdown => 3

/-- The encoding of `sensor.code` (R39). -/
def sensorCodeWord : SensorCode → U8
  | .ok => 0
  | .disconnected => 1
  | .noPower => 2
  | .badReadings => 3

/-- The encoding of the status (R96). -/
def statusWord : Status → U8
  | .ok => 0
  | .invalidAddress => 1
  | .failed => 2
  | .illegalOp => 3
  | .invalidField => 4

/-- The response word of R91: `status ‖ data`. -/
def responseWord (r : Response) : RspWord := (statusWord r.status ++ r.data : BitVec (8 + 32))

end Sys2Proof.Machine
end

