-- ==== Sys2Proof/Machine/Flags.lean ====
section
/-! DEFINITION. The status flags of the block (10_state.md R61): how `pwm.mode`, `sensor.code` and `heater.code` are computed. The block
has no arithmetic condition codes. -/

namespace Sys2Proof.Machine

/-- The mode PWM_DUTY writes for a percentage `p` in P-format (44_pwm.md R192). -/
def pwmModeFor (p : Int) : PwmMode := if p ≤ 0 then .off else if p > 10000 then .on else .run

/-- The classification of a period's mean (41_sensor.md R139), tested in that order, each comparison strict. -/
def classify (x : Sensor) (mean : Int) : SensorState × SensorCode :=
  if mean > s32 x.disconnectTemperature then (.hasNoData, .disconnected)
  else if mean < s32 x.nopowerTemperature then (.hasNoData, .noPower)
  else (.hasData, .ok)

/-- A deviation the variance test accepts (41_sensor.md R132): at most the threshold, on mathematical integers. -/
def withinVariance (x : Sensor) (v : S32) : Bool := decide (absInt (s32 v - s32 x.previous) ≤ s32 x.variance)

/-- The ambient check of 43_heater.md R177 (b). -/
def ambientFires (h : Heater) : Bool :=
  decide (h.regulationTimer ≥ h.ambientTimeout) && decide (s32 h.temperature < s32 h.ambientTemperature)

/-- The regulation check of 43_heater.md R177 (c). -/
def regulationFires (h : Heater) : Bool :=
  decide (h.regulationTimer ≥ h.regulationTimeout) && decide (s32 h.temperature < s32 h.setpoint)

/-- The diagnostic an `H_HEATING` callback latches, if any: the ambient check decides first (R177, R228 (6)). -/
def heatingDiagnostic (h : Heater) : HeaterCode :=
  if ambientFires h then .ambientTimedOut else if regulationFires h then .regulationTimedOut else .ok

end Sys2Proof.Machine
end

