-- ==== Sys2Proof/Machine/Ops.lean ====
section
/-! DEFINITION. The named operations over the state that the meanings share: the response port, the event trace, the tick interrupt, the
field-id space, the host register file and the raw sample source. The block has no trap entry and no return (60_exceptions.md R229,
R230); the TICK event is all its interrupt does (R226). -/

namespace Sys2Proof.Machine

/-- The block answers a command with one response word (30_encoding.md R91). -/
def State.respond (s : State) (st : Status) (data : U32) : State := { s with rsp := some ⟨st, data⟩ }

/-- `emit E` of R15: append to the event trace (10_state.md R62). -/
def State.emit (s : State) (e : Event) : State := { s with trace := s.trace ++ [e] }

/-- The TICK event (40_scheduler.md R110): the pending bit is set and `EV_TICK` is emitted; nothing else is written and nothing is
answered. It is the block's one interrupt and transfers no control (60_exceptions.md R226). -/
def tickEvent (s : State) : State := { s with dev := { s.dev with tickFlag := true } }.emit .tick

/-- A command word with an illegal opcode (R95): no state changes, the answer is `(ILLEGAL_OP, 0)`. -/
def illegalCommand (s : State) : State := s.respond .illegalOp 0

/-! ## The field-id space (R59, R205, R206) -/

/-- A row of R59's table. -/
structure FieldRow where
  /-- The field id. -/
  id : Nat
  /-- The field. -/
  field : Field
  /-- Its type. -/
  type : FieldType
  /-- The CFGWR column. -/
  cfg : Bool
deriving DecidableEq, Repr

/-- R59's table: id, field, type, CFGWR. -/
def fieldTable : List FieldRow :=
  [⟨0x00, .devTickFlag, .u1, false⟩,
   ⟨0x01, .devCnt100ms, .u8, false⟩,
   ⟨0x02, .devCnt1s, .u8, false⟩,
   ⟨0x03, .devPwmFreq, .u32, false⟩,
   ⟨0x04, .pwmTop, .u32, false⟩,
   ⟨0x05, .pwmCompare, .u32, false⟩,
   ⟨0x06, .pwmMode, .u8, false⟩,
   ⟨0x10, .htrState, .u8, false⟩,
   ⟨0x11, .htrCode, .u8, false⟩,
   ⟨0x12, .htrTemperature, .s32, false⟩,
   ⟨0x13, .htrSetpoint, .s32, true⟩,
   ⟨0x14, .htrRegulationTimer, .u32, false⟩,
   ⟨0x15, .htrAmbientTimeout, .u32, true⟩,
   ⟨0x16, .htrRegulationTimeout, .u32, true⟩,
   ⟨0x17, .htrAmbientTemperature, .s32, true⟩,
   ⟨0x18, .htrOverheatTemperature, .s32, true⟩,
   ⟨0x20, .snsState, .u8, false⟩,
   ⟨0x21, .snsCode, .u8, false⟩,
   ⟨0x22, .snsSpr, .u8, true⟩,
   ⟨0x23, .snsSamples, .u8, false⟩,
   ⟨0x24, .snsRetries, .u8, true⟩,
   ⟨0x25, .snsTemperature, .s32, false⟩,
   ⟨0x26, .snsPrevious, .s32, false⟩,
   ⟨0x27, .snsAccLo, .s40, false⟩,
   ⟨0x28, .snsAccHi, .s40, false⟩,
   ⟨0x29, .snsVariance, .s32, true⟩,
   ⟨0x2A, .snsDisconnect, .s32, true⟩,
   ⟨0x2B, .snsNopower, .s32, true⟩,
   ⟨0x30, .pidError, .s32, false⟩,
   ⟨0x31, .pidPrevError, .s32, false⟩,
   ⟨0x32, .pidIntegral, .s32, false⟩,
   ⟨0x33, .pidDerivative, .s32, false⟩,
   ⟨0x34, .pidOutput, .s32, false⟩,
   ⟨0x35, .pidKp, .s32, true⟩,
   ⟨0x36, .pidKi, .s32, true⟩,
   ⟨0x37, .pidKd, .s32, true⟩,
   ⟨0x38, .pidOutMin, .s32, true⟩,
   ⟨0x39, .pidOutMax, .s32, true⟩]

/-- The row of a field id; an id is compared as a full 32-bit number (R92). -/
def fieldRow (id : U32) : Option FieldRow := fieldTable.find? (fun r => r.id == id.toNat)

/-- `image(id)` of 45_register_interface.md R205. -/
def image (f : Field) (s : State) : U32 :=
  match f with
  | .devTickFlag => (BitVec.ofBool s.dev.tickFlag).zeroExtend 32
  | .devCnt100ms => s.dev.cnt100ms.zeroExtend 32
  | .devCnt1s => s.dev.cnt1s.zeroExtend 32
  | .devPwmFreq => s.dev.pwmFreq
  | .pwmTop => s.pwm.top
  | .pwmCompare => s.pwm.compare
  | .pwmMode => (pwmModeWord s.pwm.mode).zeroExtend 32
  | .htrState => (heaterStateWord s.heater.state).zeroExtend 32
  | .htrCode => (heaterCodeWord s.heater.code).zeroExtend 32
  | .htrTemperature => s.heater.temperature
  | .htrSetpoint => s.heater.setpoint
  | .htrRegulationTimer => s.heater.regulationTimer
  | .htrAmbientTimeout => s.heater.ambientTimeout
  | .htrRegulationTimeout => s.heater.regulationTimeout
  | .htrAmbientTemperature => s.heater.ambientTemperature
  | .htrOverheatTemperature => s.heater.overheatTemperature
  | .snsState => (sensorStateWord s.sensor.state).zeroExtend 32
  | .snsCode => (sensorCodeWord s.sensor.code).zeroExtend 32
  | .snsSpr => s.sensor.spr.zeroExtend 32
  | .snsSamples => s.sensor.samples.zeroExtend 32
  | .snsRetries => s.sensor.retries.zeroExtend 32
  | .snsTemperature => s.sensor.temperature
  | .snsPrevious => s.sensor.previous
  | .snsAccLo => s.sensor.accumulator.extractLsb' 0 32
  | .snsAccHi => (s.sensor.accumulator.extractLsb' 32 8).signExtend 32
  | .snsVariance => s.sensor.variance
  | .snsDisconnect => s.sensor.disconnectTemperature
  | .snsNopower => s.sensor.nopowerTemperature
  | .pidError => s.pid.error
  | .pidPrevError => s.pid.prevError
  | .pidIntegral => s.pid.integral
  | .pidDerivative => s.pid.derivative
  | .pidOutput => s.pid.output
  | .pidKp => s.pid.kp
  | .pidKi => s.pid.ki
  | .pidKd => s.pid.kd
  | .pidOutMin => s.pid.outMin
  | .pidOutMax => s.pid.outMax

/-- The assignment of a 32-bit pattern to a cfg field (R206): an S32 field takes `s32(B)`, a U32 field `u32(B)`, a U8 field the value,
which R208 has found to be at most 255. A field that is not cfg has no assignment: CFGWR and MemWrite never ask for one. -/
def setField (f : Field) (v : U32) (s : State) : State :=
  match f with
  | .devTickFlag => s
  | .devCnt100ms => s
  | .devCnt1s => s
  | .devPwmFreq => s
  | .pwmTop => s
  | .pwmCompare => s
  | .pwmMode => s
  | .htrState => s
  | .htrCode => s
  | .htrTemperature => s
  | .htrSetpoint => { s with heater := { s.heater with setpoint := v } }
  | .htrRegulationTimer => s
  | .htrAmbientTimeout => { s with heater := { s.heater with ambientTimeout := v } }
  | .htrRegulationTimeout => { s with heater := { s.heater with regulationTimeout := v } }
  | .htrAmbientTemperature => { s with heater := { s.heater with ambientTemperature := v } }
  | .htrOverheatTemperature => { s with heater := { s.heater with overheatTemperature := v } }
  | .snsState => s
  | .snsCode => s
  | .snsSpr => { s with sensor := { s.sensor with spr := v.extractLsb' 0 8 } }
  | .snsSamples => s
  | .snsRetries => { s with sensor := { s.sensor with retries := v.extractLsb' 0 8 } }
  | .snsTemperature => s
  | .snsPrevious => s
  | .snsAccLo => s
  | .snsAccHi => s
  | .snsVariance => { s with sensor := { s.sensor with variance := v } }
  | .snsDisconnect => { s with sensor := { s.sensor with disconnectTemperature := v } }
  | .snsNopower => { s with sensor := { s.sensor with nopowerTemperature := v } }
  | .pidError => s
  | .pidPrevError => s
  | .pidIntegral => s
  | .pidDerivative => s
  | .pidOutput => s
  | .pidKp => { s with pid := { s.pid with kp := v } }
  | .pidKi => { s with pid := { s.pid with ki := v } }
  | .pidKd => { s with pid := { s.pid with kd := v } }
  | .pidOutMin => { s with pid := { s.pid with outMin := v } }
  | .pidOutMax => { s with pid := { s.pid with outMax := v } }

/-- The state change of an accepted CFGWR: the field is written, and `sensor.spr` also zeroes `sensor.samples` (R207). -/
def configure (f : Field) (v : U32) (s : State) : State :=
  if f = .snsSpr then { setField f v s with sensor := { (setField f v s).sensor with samples := 0 } } else setField f v s

/-- R208's value check: a U8 field accepts 0 to 255, the other types every pattern. -/
def valueFits (t : FieldType) (v : U32) : Bool := !(t == .u8 && decide (v.toNat > 255))

/-! ## The host register file (20_memory.md R70 to R77) -/

/-- A row of the address map of R76. -/
structure RegRow where
  /-- The first offset. -/
  offset : Nat
  /-- How many bytes. -/
  bytes : Nat
  /-- The field the bytes are a window on. -/
  field : Field
  /-- Whether the host may write it. -/
  rw : Bool
deriving DecidableEq, Repr

/-- The address map of R76. -/
def regMap : List RegRow :=
  [⟨0x00, 1, .htrState, false⟩,
   ⟨0x01, 1, .htrCode, false⟩,
   ⟨0x02, 4, .htrSetpoint, true⟩,
   ⟨0x06, 1, .snsState, false⟩,
   ⟨0x07, 1, .snsCode, false⟩,
   ⟨0x08, 4, .snsTemperature, false⟩,
   ⟨0x0C, 4, .pidKp, true⟩,
   ⟨0x10, 4, .pidKi, true⟩,
   ⟨0x14, 4, .pidKd, true⟩]

/-- The row an address lies in. -/
def regRow (addr : Nat) : Option RegRow := regMap.find? (fun r => decide (r.offset ≤ addr) && decide (addr < r.offset + r.bytes))

/-- `w[8k+7 : 8k]` of R72: little-endian (R71). -/
def byteOf (w : U32) (k : Nat) : U8 := w.extractLsb' (8 * k) 8

/-- `w` with bits `8k+7 : 8k` replaced by a byte (R73). -/
def withByte (w : U32) (k : Nat) (b : U8) : U32 :=
  (w &&& ~~~((0xFF : U32) <<< (8 * k))) ||| (b.zeroExtend 32 <<< (8 * k))

/-- `MemRead(addr, 1)` of R72; not defined outside the 24 bytes. -/
def memRead (addr : Nat) (s : State) : Option U8 :=
  (regRow addr).map (fun r => byteOf (image r.field s) (addr - r.offset))

/-- `MemWrite(addr, 1, byte)` of R73; not defined outside the 24 bytes. A write to a read-only byte is ignored. -/
def memWrite (addr : Nat) (b : U8) (s : State) : Option State :=
  (regRow addr).map (fun r =>
    if r.rw then setField r.field (withByte (image r.field s) (addr - r.offset) b) s else s)

/-! ## The raw sample source (41_sensor.md R131) -/

/-- `Sample(CFG_SNS_CHANNEL)`: the next answer given with the run, or past them a free value; `EV_SAMPLE` is emitted. -/
def drawSample (s : State) : S32 × State :=
  match s.sampleQueue with
  | v :: rest => (v, { s with sampleQueue := rest }.emit (.sample s.cfg.snsChannel v))
  | [] =>
    let v := Config.rawSample s.cfg.snsChannel s.freeDraws
    (v, { s with freeDraws := s.freeDraws + 1 }.emit (.sample s.cfg.snsChannel v))

/-! ## The run (R17) -/

/-- What the next step of the run is. -/
inductive Fetched where
  /-- A TICK event. -/
  | tick
  /-- A command word that carries an operation. -/
  | instr (i : Instr)
  /-- A command word with an illegal opcode. -/
  | illegal
  /-- Nothing is presented to the block. -/
  | nothing
deriving DecidableEq, Repr

/-- The next element of the run, decoded (R97), and the state without it. -/
def fetch (s : State) : Fetched × State :=
  match s.inputs with
  | [] => (.nothing, s)
  | .tick :: rest => (.tick, { s with inputs := rest })
  | .command w :: rest =>
    match decode w with
    | .instr i => (.instr i, { s with inputs := rest })
    | .illegalOp _ => (.illegal, { s with inputs := rest })

/-- Present a command word to the block: it is the next element of the run. -/
def present (w : CmdWord) (s : State) : State := { s with inputs := .command w :: s.inputs }

end Sys2Proof.Machine
end

