-- ==== Sys2Proof/Machine/Register.lean ====
section
/-! DEFINITION. REGRD, REGWR, FLDRD and CFGWR (45_register_interface.md). -/

namespace Sys2Proof.Machine

/-- REGRD (R200): the byte zero-extended, or `INVALID_ADDRESS` past the register file. No other state changes. -/
def execRegrd (addr : U32) (s : State) : Host.Outcome State Fault Refusal :=
  match memRead addr.toNat s with
  | some b => .next (s.respond .ok (b.zeroExtend 32))
  | none => .next (s.respond .invalidAddress 0)

/-- REGWR (R201): `MemWrite` of `b[7:0]`, or `INVALID_ADDRESS` past the register file with no state change. -/
def execRegwr (addr b : U32) (s : State) : Host.Outcome State Fault Refusal :=
  match memWrite addr.toNat (dataByte b) s with
  | some t => .next (t.respond .ok 0)
  | none => .next (s.respond .invalidAddress 0)

/-- FLDRD (R205): the image of the field, or `INVALID_FIELD` for an id that is not in R59's table. -/
def execFldrd (id : U32) (s : State) : Host.Outcome State Fault Refusal :=
  match fieldRow id with
  | some r => .next (s.respond .ok (image r.field s))
  | none => .next (s.respond .invalidField 0)

/-- CFGWR (R206 to R208): the field id is tested first and the value second (60_exceptions.md R228 (2)); a refused write changes no
state. -/
def execCfgwr (id value : U32) (s : State) : Host.Outcome State Fault Refusal :=
  match fieldRow id with
  | some r =>
    if r.cfg && valueFits r.type value then .next ((configure r.field value s).respond .ok 0)
    else .next (s.respond .invalidField 0)
  | none => .next (s.respond .invalidField 0)

end Sys2Proof.Machine
end

