-- ==== Sys2Proof/Machine/Pid.lean ====
section
/-! DEFINITION. PID_INIT and PID_COMPUTE (42_pid.md). -/

namespace Sys2Proof.Machine

/-- The PID structure after PID_INIT (R150). -/
def pidInitial (c : Cfg) : Pid where
  error := 0
  prevError := 0
  integral := 0
  derivative := 0
  output := 0
  kp := c.pidKp
  ki := c.pidKi
  kd := c.pidKd
  outMin := c.pidOutMin
  outMax := c.pidOutMax

/-- The state change of PID_INIT (R150). -/
def pidInit (s : State) : State := { s with pid := pidInitial s.cfg }

/-- The error, `sat32(setpoint - measured)` (R152). -/
def pidError (setpoint measured : S32) : Int := sat32 (s32 setpoint - s32 measured)

/-- The integral after an error `e`, with the dead band of `CFG_PID_EPSILON` (R153). -/
def pidIntegral (c : Cfg) (p : Pid) (e : Int) : Int :=
  if absInt e > s32 c.pidEpsilon then sat32 (s32 p.integral + e) else s32 p.integral

/-- The derivative, `sat32(e - pid.prev_error)` (R154). -/
def pidDerivative (p : Pid) (e : Int) : Int := sat32 (e - s32 p.prevError)

/-- The output sum, exact (R155); `i` is the integral after R153. -/
def pidAcc (p : Pid) (e i d : Int) : Int := 10 * s32 p.kp * e + s32 p.ki * i + 100 * s32 p.kd * d

/-- The output: one rounding toward zero, then the clamp (R155, R156). -/
def pidOutput (p : Pid) (acc : Int) : Int := clamp (tdiv acc 1000) (s32 p.outMin) (s32 p.outMax)

/-- The PID structure after PID_COMPUTE (R151 to R157). -/
def pidStep (c : Cfg) (setpoint measured : S32) (p : Pid) : Pid :=
  let e := pidError setpoint measured
  let i := pidIntegral c p e
  let d := pidDerivative p e
  let o := pidOutput p (pidAcc p e i d)
  { p with error := u32 e, prevError := u32 e, integral := u32 i, derivative := u32 d, output := u32 o }

/-- The state change of PID_COMPUTE (R151). -/
def pidCompute (setpoint measured : S32) (s : State) : State := { s with pid := pidStep s.cfg setpoint measured s.pid }

/-- PID_INIT (R150). -/
def execPidInit (s : State) : Host.Outcome State Fault Refusal := .next ((pidInit s).respond .ok 0)

/-- PID_COMPUTE (R151): answers `(OK, u32(pid.output))`. -/
def execPidCompute (setpoint measured : S32) (s : State) : Host.Outcome State Fault Refusal :=
  let t := pidCompute setpoint measured s
  .next (t.respond .ok t.pid.output)

end Sys2Proof.Machine
end

