-- ==== Sys2Proof/Machine/Pwm.lean ====
section
/-! DEFINITION. PWM_FREQ and PWM_DUTY (44_pwm.md). -/

namespace Sys2Proof.Machine

/-- `top_raw` of R191. -/
def pwmTopRaw (c : Cfg) (hz : U32) : Nat :=
  if hz = 0 then c.pwmMaxRes.toNat else fdiv c.clkHz.toNat (c.pwmPrescale.toNat * hz.toNat)

/-- `pwm.top` after PWM_FREQ: `top_raw` clamped to `[CFG_PWM_MIN_RES, CFG_PWM_MAX_RES]` (R191). -/
def pwmTopFor (c : Cfg) (hz : U32) : U32 :=
  u32 (clamp (pwmTopRaw c hz) c.pwmMinRes.toNat c.pwmMaxRes.toNat)

/-- `dev.pwm_freq` for a top-value: the frequency the clamped top-value gives (R191). -/
def pwmFreqFor (c : Cfg) (top : U32) : U32 := BitVec.ofNat 32 (fdiv c.clkHz.toNat (c.pwmPrescale.toNat * top.toNat))

/-- The state change of PWM_FREQ(hz) (R191). -/
def pwmFreq (hz : U32) (s : State) : State :=
  let top := pwmTopFor s.cfg hz
  { s with pwm := { s.pwm with top := top }, dev := { s.dev with pwmFreq := pwmFreqFor s.cfg top } }.emit
    (.pwm s.pwm.mode top s.pwm.compare)

/-- `pwm.compare` after PWM_DUTY of `p` in P-format (R192). -/
def pwmCompareFor (top : U32) (p : Int) : U32 :=
  match pwmModeFor p with
  | .off => 0
  | .on => top
  | .run => u32 (tdiv (top.toNat * p) 10000)

/-- The state change of PWM_DUTY(p) (R192). -/
def pwmDuty (p : Int) (s : State) : State :=
  let mode := pwmModeFor p
  let compare := pwmCompareFor s.pwm.top p
  { s with pwm := { s.pwm with mode := mode, compare := compare } }.emit (.pwm mode s.pwm.top compare)

/-- PWM_FREQ (R191): answers `(OK, pwm.top)`. -/
def execPwmFreq (hz : U32) (s : State) : Host.Outcome State Fault Refusal :=
  let t := pwmFreq hz s
  .next (t.respond .ok t.pwm.top)

/-- PWM_DUTY (R192): the operand is `s32(A)`; answers `(OK, pwm.compare)`. -/
def execPwmDuty (percent : S32) (s : State) : Host.Outcome State Fault Refusal :=
  let t := pwmDuty (s32 percent) s
  .next (t.respond .ok t.pwm.compare)

/-- What the external driver makes of the three values, as a fraction of each period (R194): 0 in `PWM_OFF`, 1 in `PWM_ON`, and
`pwm.compare / pwm.top` in `PWM_RUN`, 0 when the top-value is 0. DESIGN CHOICE (assumption log 11): for a top-value of 0 in `PWM_RUN`
the files differ, R194 and R260 stating no power and I6 any value for the pin; the model takes R194's 0. A compare value above the
top-value is open (R194, I6; assumption log 11). The driver is outside the block: no operation reads this. -/
def driverFraction (p : Pwm) : ℚ :=
  match p.mode with
  | .off => 0
  | .on => 1
  | .run =>
    if p.top = 0 then 0
    else if p.compare > p.top then Config.pinAboveTop p.compare.toNat p.top.toNat
    else (p.compare.toNat : ℚ) / (p.top.toNat : ℚ)

end Sys2Proof.Machine
end

