-- ==== Sys2Proof/Machine/Sensor.lean ====
section
/-! DEFINITION. SNS_INIT, SNS_START and SNS_CB (41_sensor.md). -/

namespace Sys2Proof.Machine

/-- The sensor after SNS_INIT (R130). -/
def sensorInitial (c : Cfg) : Sensor where
  state := .hasNoData
  code := .ok
  spr := c.snsSpr
  samples := 0
  retries := c.snsRetries
  temperature := 0
  previous := 0
  accumulator := 0
  variance := c.snsVariance
  disconnectTemperature := c.snsDisconnect
  nopowerTemperature := c.snsNopower

/-- The state change of SNS_INIT (R130). -/
def snsInit (s : State) : State := { s with sensor := sensorInitial s.cfg }

/-- The state change of SNS_START (R133). -/
def snsStart (s : State) : State := { s with sensor := { s.sensor with samples := 0 } }

/-- The loop of `Acquire()` (R132) with a drawn sample `v` and `k` resamples left: every resample is compared with the same previous
accepted sample. `none` is `Fail`. -/
def resample (k : Nat) (v : S32) (s : State) : Option S32 × State :=
  if withinVariance s.sensor v then (some v, s)
  else
    match k with
    | 0 => (none, s)
    | k' + 1 => resample k' (drawSample s).1 (drawSample s).2

/-- `Acquire()` of R132: the first sample of a period is accepted unconditionally, the others by the variance test within the retry
budget. -/
def acquire (s : State) : Option S32 × State :=
  let d := drawSample s
  if s.sensor.samples = 0 then (some d.1, d.2) else resample s.sensor.retries.toNat d.1 d.2

/-- `Shutdown()` of R136. -/
def snsShutdown (x : Sensor) : Sensor := { x with state := .shutdown, code := .badReadings }

/-- `Accumulate(s)` of R135. -/
def accumulate (v : S32) (x : Sensor) : Sensor :=
  { x with
    accumulator := if x.samples = 0 then BitVec.ofInt 40 (s32 v) else BitVec.ofInt 40 (x.accumulator.toInt + s32 v)
    previous := v
    samples := x.samples + 1 }

/-- The mean of R138. -/
def periodMean (x : Sensor) : Int := tdiv x.accumulator.toInt x.spr.toNat

/-- `Complete()` of R138 and R139: the mean is classified; the temperature is written only with `S_HAS_DATA`. -/
def complete (x : Sensor) : Sensor :=
  let c := classify x (periodMean x)
  { x with
    state := c.1
    code := c.2
    temperature := if c.1 = .hasData then u32 (periodMean x) else x.temperature }

/-- What SNS_CB makes of the sensor once a sample is accepted (R134 from its fifth line on, R137). -/
def takeSample (c : Cfg) (v : S32) (x : Sensor) : Sensor :=
  if s32 v > s32 c.snsSun then snsShutdown x
  else if (accumulate v x).samples < x.spr then accumulate v x
  else complete (accumulate v x)

/-- Whether SNS_CB takes no sample: uninitialised, shut down, or the period complete (R134, first two lines). -/
def snsIdle (x : Sensor) : Bool := x.state == .uninit || x.state == .shutdown || decide (x.samples ≥ x.spr)

/-- The state change of SNS_CB (R134). -/
def snsCb (s : State) : State :=
  if snsIdle s.sensor then s
  else
    match acquire s with
    | (none, t) => { t with sensor := snsShutdown t.sensor }
    | (some v, t) => { t with sensor := takeSample t.cfg v t.sensor }

/-- SNS_INIT (R130). -/
def execSnsInit (s : State) : Host.Outcome State Fault Refusal := .next ((snsInit s).respond .ok 0)

/-- SNS_START (R133). -/
def execSnsStart (s : State) : Host.Outcome State Fault Refusal := .next ((snsStart s).respond .ok 0)

/-- SNS_CB (R134): answers `(OK, sensor.state)`, the state after the operation. -/
def execSnsCb (s : State) : Host.Outcome State Fault Refusal :=
  let t := snsCb s
  .next (t.respond .ok ((sensorStateWord t.sensor.state).zeroExtend 32))

end Sys2Proof.Machine
end

