-- ==== Sys2Proof/Machine/Heater.lean ====
section
/-! DEFINITION. HTR_INIT, HTR_ON, HTR_OFF and HTR_CB (43_heater.md). -/

namespace Sys2Proof.Machine

/-- The heater after HTR_INIT: everything but the set-point, which it leaves (R170). -/
def heaterInitial (c : Cfg) (h : Heater) : Heater :=
  { h with
    state := .off
    code := .ok
    temperature := 0
    regulationTimer := 0
    ambientTimeout := c.htrAmbientTimeout
    regulationTimeout := c.htrRegTimeout
    ambientTemperature := c.htrAmbientTemp
    overheatTemperature := c.htrOverheatTemp }

/-- The state change of HTR_INIT (R170): the output is forced off. -/
def htrInit (s : State) : State := pwmDuty 0 { s with heater := heaterInitial s.cfg s.heater }

/-- `heater.state <- v`. -/
def setHeaterState (v : HeaterState) (s : State) : State := { s with heater := { s.heater with state := v } }

/-- The state change of HTR_ON where it does not fail (R171). -/
def htrOn (s : State) : State :=
  match s.heater.state with
  | .uninit => s
  | .shutdown => setHeaterState .on (htrInit s)
  | .off => setHeaterState .on s
  | .cooling => setHeaterState .on s
  | .on => s
  | .heating => s
  | .atTemperature => s

/-- The state change of HTR_OFF where it does not fail (R172). -/
def htrOff (s : State) : State :=
  match s.heater.state with
  | .uninit => s
  | .on => pwmDuty 0 (setHeaterState .off s)
  | .heating => pwmDuty 0 (setHeaterState .off s)
  | .atTemperature => pwmDuty 0 (setHeaterState .off s)
  | .off => s
  | .cooling => s
  | .shutdown => s

/-- `Regulate()` of R173 and R178: one PID step on the set-point and the mirrored temperature, and its output to the PWM. -/
def regulate (s : State) : State :=
  let t := pidCompute s.heater.setpoint s.heater.temperature s
  pwmDuty (s32 t.pid.output) t

/-- `heater.regulation_timer <- satu32(heater.regulation_timer + 1)` (R177 (a)). -/
def advanceTimer (h : Heater) : Heater := { h with regulationTimer := u32 (satu32 (h.regulationTimer.toNat + 1)) }

/-- A heater timeout (R177): `H_SHUTDOWN` with its diagnostic, output off. -/
def heaterShutdown (code : HeaterCode) (s : State) : State :=
  pwmDuty 0 { s with heater := { s.heater with state := .shutdown, code := code } }

/-- Step 5, the `H_HEATING` callback with data (R177). -/
def heatingStep (s : State) : State :=
  let t := { s with heater := advanceTimer s.heater }
  match heatingDiagnostic t.heater with
  | .ambientTimedOut => heaterShutdown .ambientTimedOut t
  | .regulationTimedOut => heaterShutdown .regulationTimedOut t
  | .ok => regulate t

/-- The callback once step 2 has found validated data and mirrored the temperature (R173, steps 3 to 5 and R179). -/
def htrCbWithData (s : State) : State :=
  match s.heater.state with
  | .uninit => s
  | .off => s
  | .shutdown => s
  | .cooling => s
  | .on => { s with heater := { s.heater with regulationTimer := 0, state := .heating } }
  | .heating => heatingStep s
  | .atTemperature => regulate s

/-- Whether HTR_CB does nothing at all: step 1 of R173. -/
def heaterInactive (h : Heater) : Bool := h.state == .uninit || h.state == .off || h.state == .shutdown

/-- `heater.temperature <- sensor.temperature` (R174). -/
def mirrorTemperature (s : State) : State := { s with heater := { s.heater with temperature := s.sensor.temperature } }

/-- The state change of HTR_CB (R173). -/
def htrCb (s : State) : State :=
  if heaterInactive s.heater then s
  else
    let t := snsStart s
    if t.sensor.state ≠ .hasData then pwmDuty 0 t else htrCbWithData (mirrorTemperature t)

/-- HTR_INIT (R170). -/
def execHtrInit (s : State) : Host.Outcome State Fault Refusal := .next ((htrInit s).respond .ok 0)

/-- HTR_ON (R171): `(FAILED, H_UNINIT)` with no state change from `H_UNINIT`, otherwise `(OK, heater.state)`. -/
def execHtrOn (s : State) : Host.Outcome State Fault Refusal :=
  if s.heater.state = .uninit then .next (s.respond .failed ((heaterStateWord .uninit).zeroExtend 32))
  else
    let t := htrOn s
    .next (t.respond .ok ((heaterStateWord t.heater.state).zeroExtend 32))

/-- HTR_OFF (R172): `(FAILED, H_UNINIT)` with no state change from `H_UNINIT`, otherwise `(OK, heater.state)`. -/
def execHtrOff (s : State) : Host.Outcome State Fault Refusal :=
  if s.heater.state = .uninit then .next (s.respond .failed ((heaterStateWord .uninit).zeroExtend 32))
  else
    let t := htrOff s
    .next (t.respond .ok ((heaterStateWord t.heater.state).zeroExtend 32))

/-- HTR_CB (R173): answers `(OK, heater.state)`, the state after the operation. -/
def execHtrCb (s : State) : Host.Outcome State Fault Refusal :=
  let t := htrCb s
  .next (t.respond .ok ((heaterStateWord t.heater.state).zeroExtend 32))

end Sys2Proof.Machine
end

