-- ==== Sys2Proof/Machine/Scheduler.lean ====
section
/-! DEFINITION. TICKQ, POLL and DEVINIT (40_scheduler.md). -/

namespace Sys2Proof.Machine

/-- `dev.cnt_100ms <- c`. -/
def setCnt100ms (c : U8) (s : State) : State := { s with dev := { s.dev with cnt100ms := c } }

/-- `dev.cnt_1s <- c`. -/
def setCnt1s (c : U8) (s : State) : State := { s with dev := { s.dev with cnt1s := c } }

/-- `dev.tick_flag <- 0`, the write half of POLL's test-and-clear (20_memory.md R82). -/
def clearTick (s : State) : State := { s with dev := { s.dev with tickFlag := false } }

/-- The 10 ms handler: `EV_10MS`, then SNS_CB (R115). -/
def handler10ms (s : State) : State := snsCb (s.emit .ms10)

/-- The 100 ms handler: `EV_100MS`, then HTR_CB (R115). -/
def handler100ms (s : State) : State := htrCb (s.emit .ms100)

/-- The 1 s handler: `EV_1S` and no state change (R115; assumption log 12). -/
def handler1s (s : State) : State := s.emit .s1

/-- The 1 s stage of POLL, reached when the 100 ms handler has returned (R114): the data and the state. -/
def pollStage1s (s : State) : U32 × State :=
  let c := dec s.dev.cnt1s
  if c ≠ 0 then (3, setCnt1s c s) else (7, handler1s (setCnt1s Config.hundredsPer1s s))

/-- The 100 ms stage of POLL, reached when the 10 ms handler has returned (R113): the data and the state. -/
def pollStage100ms (s : State) : U32 × State :=
  let c := dec s.dev.cnt100ms
  if c ≠ 0 then (1, setCnt100ms c s) else pollStage1s (handler100ms (setCnt100ms Config.ticksPer100ms s))

/-- POLL (R112): the data it returns and the state it leaves. -/
def poll (s : State) : U32 × State :=
  if s.dev.tickFlag then pollStage100ms (handler10ms (clearTick s)) else (0, s)

/-- The first line of DEVINIT (R116). -/
def devReset (s : State) : State :=
  { s with dev := { s.dev with tickFlag := false, cnt100ms := Config.ticksPer100ms, cnt1s := Config.hundredsPer1s } }

/-- The state change of DEVINIT (R116). -/
def devInit (s : State) : State :=
  htrInit (pidInit (snsInit (pwmDuty 0 (pwmFreq s.cfg.pwmFreqHz (devReset s)))))

/-- DEVINIT (R116). -/
def execDevinit (s : State) : Host.Outcome State Fault Refusal := .next ((devInit s).respond .ok 0)

/-- TICKQ (R111): answers `(OK, dev.tick_flag)` and clears nothing. -/
def execTickq (s : State) : Host.Outcome State Fault Refusal :=
  .next (s.respond .ok ((BitVec.ofBool s.dev.tickFlag).zeroExtend 32))

/-- POLL (R112): answers `(OK, ran)`. -/
def execPoll (s : State) : Host.Outcome State Fault Refusal := .next ((poll s).2.respond .ok (poll s).1)

end Sys2Proof.Machine
end

