-- ==== Sys2Proof/Machine/Dispatch.lean ====
section
/-! DEFINITION. One arm per operation of the block (30_encoding.md R93), each a direct call of its meaning. -/

namespace Sys2Proof.Machine

def exec (i : Instr) (s : State) : Host.Outcome State Fault Refusal :=
  match i with
  | .devinit => Sys2Proof.Machine.execDevinit s
  | .tickq => Sys2Proof.Machine.execTickq s
  | .poll => Sys2Proof.Machine.execPoll s
  | .snsInit => Sys2Proof.Machine.execSnsInit s
  | .snsStart => Sys2Proof.Machine.execSnsStart s
  | .snsCb => Sys2Proof.Machine.execSnsCb s
  | .pidInit => Sys2Proof.Machine.execPidInit s
  | .pidCompute setpoint measured => Sys2Proof.Machine.execPidCompute setpoint measured s
  | .htrInit => Sys2Proof.Machine.execHtrInit s
  | .htrOn => Sys2Proof.Machine.execHtrOn s
  | .htrOff => Sys2Proof.Machine.execHtrOff s
  | .htrCb => Sys2Proof.Machine.execHtrCb s
  | .pwmFreq hz => Sys2Proof.Machine.execPwmFreq hz s
  | .pwmDuty percent => Sys2Proof.Machine.execPwmDuty percent s
  | .regrd addr => Sys2Proof.Machine.execRegrd addr s
  | .regwr addr b => Sys2Proof.Machine.execRegwr addr b s
  | .fldrd id => Sys2Proof.Machine.execFldrd id s
  | .cfgwr id value => Sys2Proof.Machine.execCfgwr id value s

end Sys2Proof.Machine
end

