-- ==== Sys2Proof/Machine/Step.lean ====
section
/-! DEFINITION. One step of a run (00_scope.md R17): the next element, a command or a TICK event, taken whole (20_memory.md R79, R80). -/

namespace Sys2Proof.Machine

/-- One step: a TICK event (R110), an operation (R97), an illegal command word (R95), or, with nothing presented to the block, no
change (assumption log 5). -/
def step (s : State) : Host.Outcome State Fault Refusal :=
  match fetch s with
  | (.tick, t) => .next (tickEvent t)
  | (.instr i, t) => exec i t
  | (.illegal, t) => .next (illegalCommand t)
  | (.nothing, t) => .next t

/-- `s` with the command word of the table's bits `w` presented to the block as the next element of the run. -/
def State.withFetchWord (s : State) (nbits w : Nat) : State := present (tableWord nbits w) s

end Sys2Proof.Machine
end

