-- ==== Sys2Proof/Safety.lean ====
section
/-! DEFINITION. What a safe state of the block is, in the terms the claims use: the invariants the spec states or derives, and the heater
output being off. -/

namespace Sys2Proof.Machine

/-- The cadence counters are 1 to 10 between operations (10_state.md R23, R24). -/
def CountersInv (s : State) : Prop :=
  1 ≤ s.dev.cnt100ms.toNat ∧ s.dev.cnt100ms.toNat ≤ 10 ∧ 1 ≤ s.dev.cnt1s.toNat ∧ s.dev.cnt1s.toNat ≤ 10

/-- `sensor.samples` never exceeds `sensor.spr` (R60 (1)), and in a period in progress the accumulator is the sum of that many S32
values (R45). -/
def PeriodInv (s : State) : Prop :=
  s.sensor.samples.toNat ≤ s.sensor.spr.toNat ∧
    (s.sensor.samples.toNat ≠ 0 →
      -((s.sensor.samples.toNat : Int) * 2147483648) ≤ s.sensor.accumulator.toInt ∧
        s.sensor.accumulator.toInt ≤ (s.sensor.samples.toNat : Int) * 2147483647)

/-- The sensor's latched diagnostic goes with its state (60_exceptions.md R222): `SC_BAD_READINGS` with `S_SHUTDOWN` and no other,
`S_HAS_DATA` and `S_UNINIT` with `SC_OK`. -/
def SensorCodeInv (s : State) : Prop :=
  (s.sensor.state = .shutdown ↔ s.sensor.code = .badReadings) ∧
    (s.sensor.state = .hasData → s.sensor.code = .ok) ∧ (s.sensor.state = .uninit → s.sensor.code = .ok)

/-- The heater's latched diagnostic goes with `H_SHUTDOWN` and no other state (60_exceptions.md R222, 43_heater.md R181). -/
def HeaterCodeInv (s : State) : Prop := s.heater.state = .shutdown ↔ s.heater.code ≠ .ok

/-- `H_AT_TEMPERATURE` and `H_COOLING` are unreachable (43_heater.md R180). -/
def HeaterReachable (s : State) : Prop := s.heater.state ≠ .atTemperature ∧ s.heater.state ≠ .cooling

/-- Between operations `pid.prev_error = pid.error` (10_state.md R50, 42_pid.md R157). -/
def PidHistoryInv (s : State) : Prop := s.pid.prevError = s.pid.error

/-- The top-value is 0, which marks that no PWM_FREQ has run, or lies in `[CFG_PWM_MIN_RES, CFG_PWM_MAX_RES]` (10_state.md R26). -/
def PwmTopInv (s : State) : Prop :=
  s.pwm.top = 0 ∨
    (s.cfg.pwmMinRes.toNat ≤ s.pwm.top.toNat ∧ s.pwm.top.toNat ≤ s.cfg.pwmMaxRes.toNat)

/-- The whole invariant of the block. `CFG` is well formed (00_scope.md R9). -/
def SafeState (s : State) : Prop :=
  s.cfg.wellFormed = true ∧ CountersInv s ∧ PeriodInv s ∧ SensorCodeInv s ∧ HeaterCodeInv s ∧ HeaterReachable s ∧
    PidHistoryInv s ∧ PwmTopInv s

/-- The heater output is off (44_pwm.md R192, R194). -/
def OutputOff (s : State) : Prop := s.pwm.mode = .off ∧ s.pwm.compare = 0

/-- How often an event stands in the trace. -/
def eventCount (e : Event) (s : State) : Nat := s.trace.count e

/-- No drift (40_scheduler.md R119): counted since reset or DEVINIT with `b10`, `b100` and `b1` events of each cadence before, ten
serviced ticks lie between two 100 ms events and ten of those between two 1 s events. -/
def NoDrift (b10 b100 b1 : Nat) (s : State) : Prop :=
  ∃ n10 n100 n1 : Nat,
    eventCount .ms10 s = b10 + n10 ∧ eventCount .ms100 s = b100 + n100 ∧ eventCount .s1 s = b1 + n1 ∧
      n10 + s.dev.cnt100ms.toNat = 10 * n100 + 10 ∧ n100 + s.dev.cnt1s.toNat = 10 * n1 + 10

/-- The next element of the run is a DEVINIT command. -/
def NextIsDevinit (s : State) : Prop := (fetch s).1 = .instr .devinit

/-- The 238 illegal opcode bytes, as 30_encoding.md R95 lists them. -/
def illegalByte (o : Nat) : Bool :=
  o == 0x00 || (decide (0x04 ≤ o) && decide (o ≤ 0x0F)) || (decide (0x13 ≤ o) && decide (o ≤ 0x1F)) ||
    (decide (0x22 ≤ o) && decide (o ≤ 0x2F)) || (decide (0x34 ≤ o) && decide (o ≤ 0x3F)) ||
    (decide (0x42 ≤ o) && decide (o ≤ 0x4F)) || (decide (0x52 ≤ o) && decide (o ≤ 0x5F)) ||
    (decide (0x62 ≤ o) && decide (o ≤ 0xFF))

/-- The answer the raw sample source gives to the request number `k` (counted from 0) that the next operation makes: from the queue of
the run while it lasts, then the free value (41_sensor.md R131; assumption log 2). -/
def sampleAnswer (s : State) (k : Nat) : S32 :=
  match s.sampleQueue[k]? with
  | some v => v
  | none => Config.rawSample s.cfg.snsChannel (s.freeDraws + (k - s.sampleQueue.length))

/-- The state after `n` requests to the raw sample source and nothing else: `n` answers taken, one EV_SAMPLE for each (R131, R62). -/
def afterDraws (n : Nat) (s : State) : State :=
  { s with
    sampleQueue := s.sampleQueue.drop n
    freeDraws := s.freeDraws + (n - s.sampleQueue.length)
    trace := s.trace ++ (List.range n).map (fun k => Event.sample s.cfg.snsChannel (sampleAnswer s k)) }

/-- The answer number `k` is rejected: it deviates from the previous accepted sample by more than the variance threshold (R132). -/
def Rejected (s : State) (k : Nat) : Prop :=
  |(sampleAnswer s k).toInt - s.sensor.previous.toInt| > s.sensor.variance.toInt

/-- The sensor draws a sample in SNS_CB: neither uninitialised nor shut down, and its period not complete (R134). -/
def Sampling (x : Sensor) : Prop := x.state ≠ .uninit ∧ x.state ≠ .shutdown ∧ x.samples.toNat < x.spr.toNat

/-- The sample SNS_CB accepts is the answer number `k`: the first answer in a period that has no sample yet, otherwise the first one
within the variance threshold, the `k` before it rejected, `k` at most the retry budget (41_sensor.md R132). -/
def Accepts (s : State) (k : Nat) : Prop :=
  (s.sensor.samples = 0 ∧ k = 0) ∨
    (s.sensor.samples ≠ 0 ∧ k ≤ s.sensor.retries.toNat ∧ (∀ j < k, Rejected s j) ∧ ¬ Rejected s k)

/-- The sum of the period in progress with the sample `v` added: the first sample of a period replaces what the accumulator held
(41_sensor.md R135). -/
def sumWith (x : Sensor) (v : S32) : Int := if x.samples = 0 then v.toInt else x.accumulator.toInt + v.toInt

/-- The mean of the period that the sample `v` completes: the quotient toward zero of the sum by the count (R135, R138). -/
def meanWith (x : Sensor) (v : S32) : Int :=
  Int.tdiv (sumWith x v) x.spr.toNat

/-- `v` brought to the S32 range (00_scope.md R13, `sat32`), written with the bounds of the type. -/
def saturated (v : Int) : Int := max (-2147483648) (min v 2147483647)

/-- The 24 bytes of the host register file in address order, byte by byte as 20_memory.md R76 lists them. -/
def registerFile (s : State) : List U8 :=
  [heaterStateWord s.heater.state, heaterCodeWord s.heater.code,
   s.heater.setpoint.extractLsb' 0 8, s.heater.setpoint.extractLsb' 8 8,
   s.heater.setpoint.extractLsb' 16 8, s.heater.setpoint.extractLsb' 24 8,
   sensorStateWord s.sensor.state, sensorCodeWord s.sensor.code,
   s.sensor.temperature.extractLsb' 0 8, s.sensor.temperature.extractLsb' 8 8,
   s.sensor.temperature.extractLsb' 16 8, s.sensor.temperature.extractLsb' 24 8,
   s.pid.kp.extractLsb' 0 8, s.pid.kp.extractLsb' 8 8, s.pid.kp.extractLsb' 16 8, s.pid.kp.extractLsb' 24 8,
   s.pid.ki.extractLsb' 0 8, s.pid.ki.extractLsb' 8 8, s.pid.ki.extractLsb' 16 8, s.pid.ki.extractLsb' 24 8,
   s.pid.kd.extractLsb' 0 8, s.pid.kd.extractLsb' 8 8, s.pid.kd.extractLsb' 16 8, s.pid.kd.extractLsb' 24 8]

/-- The state with other values in what the host may write: the set-point and the three gains (45_register_interface.md R203). -/
def withHostFields (setpoint kp ki kd : S32) (s : State) : State :=
  { s with heater := { s.heater with setpoint := setpoint }, pid := { s.pid with kp := kp, ki := ki, kd := kd } }

/-- The field ids of 10_state.md R59. -/
def definedIds : List Nat :=
  [0x00, 0x01, 0x02, 0x03, 0x04, 0x05, 0x06] ++
  [0x10, 0x11, 0x12, 0x13, 0x14, 0x15, 0x16, 0x17, 0x18] ++
  [0x20, 0x21, 0x22, 0x23, 0x24, 0x25, 0x26, 0x27, 0x28, 0x29, 0x2A, 0x2B] ++
  [0x30, 0x31, 0x32, 0x33, 0x34, 0x35, 0x36, 0x37, 0x38, 0x39]

/-- The 15 cfg ids of 45_register_interface.md R206. -/
def cfgIds : List Nat := [0x13, 0x15, 0x16, 0x17, 0x18, 0x22, 0x24, 0x29, 0x2A, 0x2B, 0x35, 0x36, 0x37, 0x38, 0x39]

/-- The field ids that hold a U1, U8 or U32 value or an enumeration, with that value as a number (45_register_interface.md R205). -/
def unsignedFields (s : State) : List (U32 × Nat) :=
  [(0x00, if s.dev.tickFlag then 1 else 0), (0x01, s.dev.cnt100ms.toNat), (0x02, s.dev.cnt1s.toNat), (0x03, s.dev.pwmFreq.toNat)] ++
  [(0x04, s.pwm.top.toNat), (0x05, s.pwm.compare.toNat), (0x06, (pwmModeWord s.pwm.mode).toNat)] ++
  [(0x10, (heaterStateWord s.heater.state).toNat), (0x11, (heaterCodeWord s.heater.code).toNat)] ++
  [(0x14, s.heater.regulationTimer.toNat), (0x15, s.heater.ambientTimeout.toNat), (0x16, s.heater.regulationTimeout.toNat)] ++
  [(0x20, (sensorStateWord s.sensor.state).toNat), (0x21, (sensorCodeWord s.sensor.code).toNat)] ++
  [(0x22, s.sensor.spr.toNat), (0x23, s.sensor.samples.toNat), (0x24, s.sensor.retries.toNat)]

/-- The field ids that hold an S32 value, with that value as a number (45_register_interface.md R205). -/
def signedFields (s : State) : List (U32 × Int) :=
  [(0x12, s.heater.temperature.toInt), (0x13, s.heater.setpoint.toInt)] ++
  [(0x17, s.heater.ambientTemperature.toInt), (0x18, s.heater.overheatTemperature.toInt)] ++
  [(0x25, s.sensor.temperature.toInt), (0x26, s.sensor.previous.toInt), (0x29, s.sensor.variance.toInt)] ++
  [(0x2A, s.sensor.disconnectTemperature.toInt), (0x2B, s.sensor.nopowerTemperature.toInt)] ++
  [(0x30, s.pid.error.toInt), (0x31, s.pid.prevError.toInt), (0x32, s.pid.integral.toInt)] ++
  [(0x33, s.pid.derivative.toInt), (0x34, s.pid.output.toInt)] ++
  [(0x35, s.pid.kp.toInt), (0x36, s.pid.ki.toInt), (0x37, s.pid.kd.toInt)] ++
  [(0x38, s.pid.outMin.toInt), (0x39, s.pid.outMax.toInt)]

/-- The bytes of the register file that an operation may change, by their addresses (20_memory.md R76): the windows on the fields the
operation's rule writes. REGWR stores to its address, if that is a read-write byte (R73). -/
def storedAddresses : Instr → List Nat
  | .devinit => [0x00, 0x01, 0x06, 0x07, 0x08, 0x09, 0x0A, 0x0B, 0x0C, 0x0D, 0x0E, 0x0F, 0x10, 0x11, 0x12, 0x13, 0x14, 0x15,
      0x16, 0x17]
  | .tickq => []
  | .poll => [0x00, 0x01, 0x06, 0x07, 0x08, 0x09, 0x0A, 0x0B]
  | .snsInit => [0x06, 0x07, 0x08, 0x09, 0x0A, 0x0B]
  | .snsStart => []
  | .snsCb => [0x06, 0x07, 0x08, 0x09, 0x0A, 0x0B]
  | .pidInit => [0x0C, 0x0D, 0x0E, 0x0F, 0x10, 0x11, 0x12, 0x13, 0x14, 0x15, 0x16, 0x17]
  | .pidCompute _ _ => []
  | .htrInit => [0x00, 0x01]
  | .htrOn => [0x00, 0x01]
  | .htrOff => [0x00]
  | .htrCb => [0x00, 0x01]
  | .pwmFreq _ => []
  | .pwmDuty _ => []
  | .regrd _ => []
  | .regwr addr _ =>
    if (0x02 ≤ addr.toNat ∧ addr.toNat ≤ 0x05) ∨ (0x0C ≤ addr.toNat ∧ addr.toNat ≤ 0x17) then [addr.toNat] else []
  | .fldrd _ => []
  | .cfgwr id _ =>
    if id = 0x13 then [0x02, 0x03, 0x04, 0x05]
    else if id = 0x35 then [0x0C, 0x0D, 0x0E, 0x0F]
    else if id = 0x36 then [0x10, 0x11, 0x12, 0x13]
    else if id = 0x37 then [0x14, 0x15, 0x16, 0x17]
    else []

end Sys2Proof.Machine
end

