-- ==== Sys2Proof/Certificates/Slice0/Obligations.lean ====
section
/-! DEFINITION. The statements for the provers, one definition each. -/

open Sys2Proof Sys2Proof.Machine

/-! ## Encoding -/

/-- O1. R90, R93, R97: the decoder gives back every operation the encoder writes, with every operand, through the command word and
through the table's bits. -/
def Obligations.DecodeEncodeAgree : Prop :=
  ∀ i : Instr, decode (encode i) = .instr i ∧ decodeTableWord 72 (encode i).toNat = some i

/-- O2. R90, R94: the encoder gives back every command word that carries an operation, with zero in the operand fields its format does
not use. For REGWR it keeps all of B, the ignored B[31:8] too: that is the model's choice of log entry 16 (DESIGN CHOICE). R94 has an
assembler write those bits as zero, which Instr.wellFormed asks for. -/
def Obligations.EncodeDecodeClearsIgnoredBits : Prop :=
  ∀ (w : CmdWord) (i : Instr), decode w = .instr i →
    encode i = w &&& (0xFF_00000000_00000000 ||| i.format.operandMask)

/-- O3. R95: the 238 bytes listed there are the illegal opcodes and no other; a command word with one changes nothing, adds nothing
to the trace and answers `(ILLEGAL_OP, 0)`. -/
def Obligations.IllegalOpcode : Prop :=
  ((List.range 256).filter illegalByte).length = 238 ∧
    ∀ (w : CmdWord),
      (illegalByte (cmdOp w).toNat = true ↔ decode w = .illegalOp (cmdOp w)) ∧
        (illegalByte (cmdOp w).toNat = false ↔ ∃ i, decode w = .instr i) ∧
        ∀ (s : State) (rest : List Input), illegalByte (cmdOp w).toNat = true → s.inputs = .command w :: rest →
          step s = .next { s with inputs := rest, rsp := some ⟨.illegalOp, 0⟩ }

/-- O4. R90, R93 and the encodings of the worked examples: command words written out from the spec decode to their operations. -/
def Obligations.DecodeReadsSpecWords : Prop :=
  decode 0x01_00000000_00000000 = .instr .devinit ∧
    decode 0x12_00000000_00000000 = .instr .snsCb ∧
    decode 0x21_00004E20_00003A98 = .instr (.pidCompute 20000 15000) ∧
    decode 0x33_00000000_00000000 = .instr .htrCb ∧
    decode 0x40_000003E8_00000000 = .instr (.pwmFreq 1000) ∧
    decode 0x51_00000002_00000020 = .instr (.regwr 2 0x20) ∧
    decode 0x61_00000039_00000190 = .instr (.cfgwr 0x39 400)

/-- O5. R94: the bits a format does not use have no effect on what a word means, nor have bits 31 to 8 of the B field of REGWR on
what the operation does. -/
def Obligations.IgnoredBitsHaveNoEffect : Prop :=
  (∀ (w w' : CmdWord) (i : Instr), decode w = .instr i →
      w &&& (0xFF_00000000_00000000 ||| i.format.operandMask) = w' &&& (0xFF_00000000_00000000 ||| i.format.operandMask) →
      decode w' = .instr i) ∧
    ∀ (a b b' : U32) (s : State), b.toNat % 256 = b'.toNat % 256 → exec (.regwr a b) s = exec (.regwr a b') s

/-- O6. R91, R96, R28 to R30, R38, R39: the two fields of a response word and the numbers of the status codes and the enumerations.
-/
def Obligations.CodesOfWords : Prop :=
  (∀ r : Response, (responseWord r).extractLsb' 32 8 = statusWord r.status ∧ (responseWord r).extractLsb' 0 32 = r.data) ∧
    [Status.ok, .invalidAddress, .failed, .illegalOp, .invalidField].map statusWord = [0, 1, 2, 3, 4] ∧
    [PwmMode.off, .run, .on].map pwmModeWord = [0, 1, 2] ∧
    [HeaterState.uninit, .off, .on, .heating, .atTemperature, .cooling, .shutdown].map heaterStateWord = [0, 1, 2, 3, 4, 5, 6] ∧
    [HeaterCode.ok, .ambientTimedOut, .regulationTimedOut].map heaterCodeWord = [0, 1, 2] ∧
    [SensorState.uninit, .hasNoData, .hasData, .shutdown].map sensorStateWord = [0, 1, 2, 3] ∧
    [SensorCode.ok, .disconnected, .noPower, .badReadings].map sensorCodeWord = [0, 1, 2, 3]

/-! ## The step and its outcomes -/

/-- O7. R17, R79, R97: a step with a command word that carries the operation `i` next in the run is `exec i` on the state without
that word, and presenting the table's bits of a word makes it next (the model's choices, log entries 4 and 15). -/
def Obligations.StepRunsDecodedInstruction : Prop :=
  (∀ (s : State) (w : CmdWord) (rest : List Input) (i : Instr), s.inputs = .command w :: rest → decode w = .instr i →
      step s = exec i { s with inputs := rest }) ∧
    ∀ (s : State) (w : CmdWord) (i : Instr), decode w = .instr i → step (s.withFetchWord 72 w.toNat) = exec i s

/-- O8. R110: a TICK sets the flag, adds EV_TICK to the trace, answers nothing and writes nothing else, in every state. -/
def Obligations.TickEvent : Prop :=
  ∀ (s : State) (rest : List Input), s.inputs = .tick :: rest →
    step s = .next { s with inputs := rest, dev := { s.dev with tickFlag := true }, trace := s.trace ++ [.tick] }

/-- O9. R237 says the block has no wait; with nothing presented to it the model's step changes nothing (the model's choice, log
entry 5). -/
def Obligations.IdleStep : Prop :=
  ∀ s : State, s.inputs = [] → step s = .next s

/-- O10. R220: every operation, in every state, answers a next state and one response; with a status other than OK it has changed
nothing. -/
def Obligations.EveryOperationCompletes : Prop :=
  ∀ (i : Instr) (s : State), ∃ (t : State) (r : Response),
    exec i s = .next t ∧ t.inputs = s.inputs ∧ t.rsp = some r ∧ (r.status ≠ .ok → t = { s with rsp := some r })

/-- O11. R221: which operation answers which failure status, for exactly which cause, with data 0 and no state change; and an
illegal command word answers its own status. -/
def Obligations.FailureStatusCauses : Prop :=
  (∀ (i : Instr) (s : State), ∃ (t : State) (r : Response), exec i s = .next t ∧ t.rsp = some r ∧
      (r.status = .invalidAddress ↔ ∃ a, 24 ≤ a.toNat ∧ (i = .regrd a ∨ ∃ b, i = .regwr a b)) ∧
      (r.status = .failed ↔ s.heater.state = .uninit ∧ (i = .htrOn ∨ i = .htrOff)) ∧
      r.status ≠ .illegalOp ∧
      (r.status = .invalidField ↔
        (∃ id, i = .fldrd id ∧ id.toNat ∉ definedIds) ∨
          ∃ id v, i = .cfgwr id v ∧ (id.toNat ∉ cfgIds ∨ ((id = 0x22 ∨ id = 0x24) ∧ 255 < v.toNat))) ∧
      (r.status ≠ .ok → r.data = 0 ∧ t = { s with rsp := some r })) ∧
    ∀ (s : State) (w : CmdWord) (rest : List Input), s.inputs = .command w :: rest → (∀ i, decode w ≠ .instr i) →
      step s = .next { s with inputs := rest, rsp := some ⟨.illegalOp, 0⟩ }

/-- O12. R8, R220: a run of any length from any state never stops: every element of the run is completed. Past the end of `s.inputs`
the run goes on only by the step that changes nothing, which is the model's choice of log entry 5 (DESIGN CHOICE); by R17 a run ends
when the list is exhausted. -/
def Obligations.RunsNeverStop : Prop :=
  ∀ (k : Nat) (s : State), ∃ t : State, Host.Core.run core k s = .next t

/-! ## Scheduler -/

/-- O13. R111: TICKQ answers the flag and clears nothing. -/
def Obligations.TickqResult : Prop :=
  ∀ s : State, exec .tickq s = .next { s with rsp := some ⟨.ok, if s.dev.tickFlag then 1 else 0⟩ }

/-- O14. R112, its no-op: with no tick pending POLL answers 0 and changes nothing. -/
def Obligations.PollWithoutTick : Prop :=
  ∀ s : State, s.dev.tickFlag = false → exec .poll s = .next { s with rsp := some ⟨.ok, 0⟩ }

/-- O15. R112, R114, R115, with a tick pending and the counters in their legal range 1 to 10 (R23, R24): POLL clears the flag, emits
EV_10MS and performs SNS_CB; a counter above 1 is decremented and ends POLL there; at 1 it is reloaded, and the next handler is
performed with its event: HTR_CB at 100 ms, nothing but EV_1S at 1 s. -/
def Obligations.PollServicesTick : Prop :=
  ∀ s : State, s.dev.tickFlag = true → CountersInv s →
    ∃ u : State,
      exec .snsCb { s with dev := { s.dev with tickFlag := false }, trace := s.trace ++ [.ms10] } = .next u ∧
        (1 < s.dev.cnt100ms.toNat →
          ∃ c : U8, c.toNat + 1 = s.dev.cnt100ms.toNat ∧
            exec .poll s =
              .next { u with dev := { s.dev with tickFlag := false, cnt100ms := c }, rsp := some ⟨.ok, 1⟩ }) ∧
        (s.dev.cnt100ms.toNat = 1 →
          ∃ v : State,
            exec .htrCb
                { u with dev := { s.dev with tickFlag := false, cnt100ms := 10 }, trace := u.trace ++ [.ms100] } = .next v ∧
              (1 < s.dev.cnt1s.toNat →
                ∃ c : U8, c.toNat + 1 = s.dev.cnt1s.toNat ∧
                  exec .poll s =
                    .next { v with
                      dev := { s.dev with tickFlag := false, cnt100ms := 10, cnt1s := c }, rsp := some ⟨.ok, 3⟩ }) ∧
              (s.dev.cnt1s.toNat = 1 →
                exec .poll s =
                  .next { v with
                    dev := { s.dev with tickFlag := false, cnt100ms := 10, cnt1s := 10 }
                    trace := v.trace ++ [.s1]
                    rsp := some ⟨.ok, 7⟩ }))

/-- O16. From R110 and R112 (the spec draws it as its own inference in R118): any number of TICK events with no POLL between them
leaves one tick pending; one POLL services it, and the next POLL finds none. -/
def Obligations.LostTicks : Prop :=
  ∀ (n : Nat) (s : State) (rest : List Input), 1 ≤ n → s.inputs = List.replicate n .tick ++ rest →
    ∃ t : State,
      Host.Core.run core n s = .next t ∧
        t = { s with
              inputs := rest, dev := { s.dev with tickFlag := true }, trace := s.trace ++ List.replicate n .tick } ∧
        ∃ u : State, exec .poll t = .next u ∧ u.dev.tickFlag = false ∧
          exec .poll u = .next { u with rsp := some ⟨.ok, 0⟩ }

/-- O17. From R112 and R114 (the spec draws it as its own inference in R119): every step but a DEVINIT keeps the count of the
cadences: since the events `b10`, `b100`, `b1` of a start, the 100 ms handler has run once in every ten serviced ticks and the 1 s
handler once in every hundred. -/
def Obligations.StepKeepsNoDrift : Prop :=
  ∀ (b10 b100 b1 : Nat) (s t : State), CountersInv s → NoDrift b10 b100 b1 s → ¬ NextIsDevinit s → step s = .next t →
    CountersInv t ∧ NoDrift b10 b100 b1 t ∧
      eventCount .ms100 t = b100 + (eventCount .ms10 t - b10) / 10 ∧
      eventCount .s1 t = b1 + (eventCount .ms10 t - b10) / 100

/-- O18. From R250 and R116 (the start that the spec's inference R119 counts from): the count starts at reset, for every
configuration, and again at every DEVINIT. -/
def Obligations.NoDriftStarts : Prop :=
  (∀ c : Cfg, CountersInv (State.resetWith c) ∧ NoDrift 0 0 0 (State.resetWith c)) ∧
    ∀ s : State, ∃ t : State, exec .devinit s = .next t ∧ CountersInv t ∧
      NoDrift (eventCount .ms10 s) (eventCount .ms100 s) (eventCount .s1 s) t

/-- O19. R116 with a well-formed CFG (R9): everything DEVINIT does. The set-point and the run stay, the trace gets the events of one
PWM_FREQ and two PWM_DUTY. -/
def Obligations.DevinitResult : Prop :=
  ∀ s : State, s.cfg.wellFormed = true →
    ∃ top freq : U32,
      top.toNat =
          max s.cfg.pwmMinRes.toNat
            (min s.cfg.pwmMaxRes.toNat
              (if s.cfg.pwmFreqHz = 0 then s.cfg.pwmMaxRes.toNat
                else s.cfg.clkHz.toNat / (s.cfg.pwmPrescale.toNat * s.cfg.pwmFreqHz.toNat))) ∧
        freq.toNat = s.cfg.clkHz.toNat / (s.cfg.pwmPrescale.toNat * top.toNat) ∧
        exec .devinit s =
          .next { s with
            dev := { tickFlag := false, cnt100ms := 10, cnt1s := 10, pwmFreq := freq }
            pwm := { top := top, compare := 0, mode := .off }
            sensor :=
              { state := .hasNoData, code := .ok, spr := s.cfg.snsSpr, samples := 0, retries := s.cfg.snsRetries,
                temperature := 0, previous := 0, accumulator := 0, variance := s.cfg.snsVariance,
                disconnectTemperature := s.cfg.snsDisconnect, nopowerTemperature := s.cfg.snsNopower }
            pid :=
              { error := 0, prevError := 0, integral := 0, derivative := 0, output := 0, kp := s.cfg.pidKp,
                ki := s.cfg.pidKi, kd := s.cfg.pidKd, outMin := s.cfg.pidOutMin, outMax := s.cfg.pidOutMax }
            heater :=
              { state := .off, code := .ok, temperature := 0, setpoint := s.heater.setpoint, regulationTimer := 0,
                ambientTimeout := s.cfg.htrAmbientTimeout, regulationTimeout := s.cfg.htrRegTimeout,
                ambientTemperature := s.cfg.htrAmbientTemp, overheatTemperature := s.cfg.htrOverheatTemp }
            trace := s.trace ++ [.pwm s.pwm.mode top s.pwm.compare, .pwm .off top 0, .pwm .off top 0]
            rsp := some ⟨.ok, 0⟩ }

/-! ## PWM -/

/-- O20. R191 with a well-formed CFG (R9): the top-value is the floor of the clock over prescale times frequency, clamped, and the
largest for 0 Hz; the stored frequency is that of the clamped top-value; mode and compare value stay. -/
def Obligations.PwmFreqResult : Prop :=
  ∀ (hz : U32) (s : State), s.cfg.wellFormed = true →
    ∃ top freq : U32,
      top.toNat =
          max s.cfg.pwmMinRes.toNat
            (min s.cfg.pwmMaxRes.toNat
              (if hz = 0 then s.cfg.pwmMaxRes.toNat
                else s.cfg.clkHz.toNat / (s.cfg.pwmPrescale.toNat * hz.toNat))) ∧
        1 ≤ top.toNat ∧
        freq.toNat = s.cfg.clkHz.toNat / (s.cfg.pwmPrescale.toNat * top.toNat) ∧
        freq.toNat ≤ s.cfg.clkHz.toNat ∧
        exec (.pwmFreq hz) s =
          .next { s with
            pwm := { s.pwm with top := top }
            dev := { s.dev with pwmFreq := freq }
            trace := s.trace ++ [.pwm s.pwm.mode top s.pwm.compare]
            rsp := some ⟨.ok, top⟩ }

/-- O21. R192: fully off for a percentage of 0 or less, fully on above 100.00, otherwise the compare value is the floor of that
fraction of the stored top-value and at most the top-value. -/
def Obligations.PwmDutyResult : Prop :=
  ∀ (p : S32) (s : State),
    ∃ (mode : PwmMode) (compare : U32),
      exec (.pwmDuty p) s =
          .next { s with
            pwm := { s.pwm with mode := mode, compare := compare }
            trace := s.trace ++ [.pwm mode s.pwm.top compare]
            rsp := some ⟨.ok, compare⟩ } ∧
        (p.toInt ≤ 0 → mode = .off ∧ compare = 0) ∧
        (10000 < p.toInt → mode = .on ∧ compare = s.pwm.top) ∧
        (0 < p.toInt → p.toInt ≤ 10000 →
          mode = .run ∧ compare.toNat = s.pwm.top.toNat * p.toInt.toNat / 10000 ∧ compare.toNat ≤ s.pwm.top.toNat)

/-- O22. R192, R194: after PWM_DUTY the fraction of each period the driver makes active is 0 for 0 percent or less, 1 above 100.00
percent, and otherwise compare over top (0 for a top-value of 0), never below 0 nor above 1 nor above the percentage asked for. That
the fraction is 0 for a top-value of 0 is R194's value where I6 allows any for the pin: the model's choice of log entry 11. -/
def Obligations.DutyFractionBounded : Prop :=
  ∀ (p : S32) (s : State), ∃ t : State, exec (.pwmDuty p) s = .next t ∧
    0 ≤ driverFraction t.pwm ∧ driverFraction t.pwm ≤ 1 ∧
    (p.toInt ≤ 0 → driverFraction t.pwm = 0) ∧
    (10000 < p.toInt → driverFraction t.pwm = 1) ∧
    (0 < p.toInt → p.toInt ≤ 10000 →
      driverFraction t.pwm = (t.pwm.compare.toNat : ℚ) / (t.pwm.top.toNat : ℚ) ∧
        driverFraction t.pwm ≤ (p.toInt : ℚ) / 10000)

/-! ## Sensor -/

/-- O23. R130: everything SNS_INIT does, in every state. -/
def Obligations.SnsInitResult : Prop :=
  ∀ s : State,
    exec .snsInit s =
      .next { s with
        sensor :=
          { state := .hasNoData, code := .ok, spr := s.cfg.snsSpr, samples := 0, retries := s.cfg.snsRetries,
            temperature := 0, previous := 0, accumulator := 0, variance := s.cfg.snsVariance,
            disconnectTemperature := s.cfg.snsDisconnect, nopowerTemperature := s.cfg.snsNopower }
        rsp := some ⟨.ok, 0⟩ }

/-- O24. R133: SNS_START sets the sample count to 0 and does nothing else, in every sensor state; two in a row equal one. -/
def Obligations.SnsStartResult : Prop :=
  ∀ s : State, ∃ t : State,
    exec .snsStart s = .next t ∧ t = { s with sensor := { s.sensor with samples := 0 }, rsp := some ⟨.ok, 0⟩ } ∧
      exec .snsStart t = .next t

/-- O25. R134, its first two lines: uninitialised, shut down, or with the period complete, SNS_CB draws no sample and changes
nothing. -/
def Obligations.SnsCbIdle : Prop :=
  ∀ s : State, ¬ Sampling s.sensor →
    exec .snsCb s = .next { s with rsp := some ⟨.ok, (sensorStateWord s.sensor.state).zeroExtend 32⟩ }

/-- O26. R131, R132, R134, R136 (b): the accepted sample, be it the first of the period, above `CFG_SNS_SUN` shuts the sensor down
and is not accumulated; the samples drawn are those up to it, one EV_SAMPLE each. -/
def Obligations.SnsCbSunShutdown : Prop :=
  ∀ (s : State) (k : Nat), Sampling s.sensor → Accepts s k → s.cfg.snsSun.toInt < (sampleAnswer s k).toInt →
    exec .snsCb s =
      .next { afterDraws (k + 1) s with
        sensor := { s.sensor with state := .shutdown, code := .badReadings }
        rsp := some ⟨.ok, 3⟩ }

/-- O27. R131, R132, R134, R135, R137: an accepted sample that does not complete the period is summed exactly, becomes the reference
and is counted; state, code and temperature stay. -/
def Obligations.SnsCbMidPeriod : Prop :=
  ∀ (s : State) (k : Nat), PeriodInv s → Sampling s.sensor → Accepts s k →
    (sampleAnswer s k).toInt ≤ s.cfg.snsSun.toInt → s.sensor.samples.toNat + 1 < s.sensor.spr.toNat →
    ∃ (acc : S40) (n : U8),
      acc.toInt = sumWith s.sensor (sampleAnswer s k) ∧ n.toNat = s.sensor.samples.toNat + 1 ∧
        exec .snsCb s =
          .next { afterDraws (k + 1) s with
            sensor := { s.sensor with accumulator := acc, previous := sampleAnswer s k, samples := n }
            rsp := some ⟨.ok, (sensorStateWord s.sensor.state).zeroExtend 32⟩ }

/-- O28. R131, R132, R134, R135, R138, R139: the accepted sample that completes the period. The mean, rounded toward zero, fits S32;
it is compared with the disconnect threshold first and the no-power threshold second, both strictly, and the temperature is written
in the `S_HAS_DATA` outcome only. -/
def Obligations.SnsCbCompletesPeriod : Prop :=
  ∀ (s : State) (k : Nat), PeriodInv s → Sampling s.sensor → Accepts s k →
    (sampleAnswer s k).toInt ≤ s.cfg.snsSun.toInt → s.sensor.samples.toNat + 1 = s.sensor.spr.toNat →
    ∃ (acc : S40) (mean : S32),
      acc.toInt = sumWith s.sensor (sampleAnswer s k) ∧ mean.toInt = meanWith s.sensor (sampleAnswer s k) ∧
        exec .snsCb s =
          .next (if s.sensor.disconnectTemperature.toInt < mean.toInt then
            { afterDraws (k + 1) s with
              sensor :=
                { s.sensor with
                  state := .hasNoData, code := .disconnected, accumulator := acc, previous := sampleAnswer s k
                  samples := s.sensor.spr }
              rsp := some ⟨.ok, 1⟩ }
          else if mean.toInt < s.sensor.nopowerTemperature.toInt then
            { afterDraws (k + 1) s with
              sensor :=
                { s.sensor with
                  state := .hasNoData, code := .noPower, accumulator := acc, previous := sampleAnswer s k
                  samples := s.sensor.spr }
              rsp := some ⟨.ok, 1⟩ }
          else
            { afterDraws (k + 1) s with
              sensor :=
                { s.sensor with
                  state := .hasData, code := .ok, temperature := mean, accumulator := acc
                  previous := sampleAnswer s k, samples := s.sensor.spr }
              rsp := some ⟨.ok, 2⟩ })

/-- O29. R132, R136 (a), which R141 (3) draws together as an inference of the spec: if the sample and every resample within the
retry budget is rejected, SNS_CB draws them all, shuts the sensor down with the bad-readings code and changes no other field. -/
def Obligations.SnsCbRetriesExhausted : Prop :=
  ∀ s : State, Sampling s.sensor → s.sensor.samples ≠ 0 → (∀ k ≤ s.sensor.retries.toNat, Rejected s k) →
    exec .snsCb s =
      .next { afterDraws (s.sensor.retries.toNat + 1) s with
        sensor := { s.sensor with state := .shutdown, code := .badReadings }
        rsp := some ⟨.ok, 3⟩ }

/-- O30. From R132, R135 and R137 to R139 (the spec draws it as its own inference in R141 (1), (2)): from the start of a period,
`spr` callbacks whose samples stay within the variance threshold of each other and at or below `CFG_SNS_SUN` end the period with the
classification of their mean: the validated temperature, or one error code and the old temperature. -/
def Obligations.FullPeriodGivesMean : Prop :=
  ∀ (s : State) (n : Nat), s.sensor.state = .hasNoData ∨ s.sensor.state = .hasData → s.sensor.samples = 0 →
    n = s.sensor.spr.toNat → 1 ≤ n →
    s.inputs = List.replicate n (.command 0x12_00000000_00000000) →
    (∀ j < n, (sampleAnswer s j).toInt ≤ s.cfg.snsSun.toInt) →
    (∀ j, j + 1 < n → |(sampleAnswer s (j + 1)).toInt - (sampleAnswer s j).toInt| ≤ s.sensor.variance.toInt) →
    ∃ t : State,
      Host.Core.run core n s = .next t ∧ t.sensor.samples = s.sensor.spr ∧ t.trace = (afterDraws n s).trace ∧
        ∀ mean : Int, mean = Int.tdiv ((List.range n).map (fun j => (sampleAnswer s j).toInt)).sum n →
          (s.sensor.disconnectTemperature.toInt < mean →
            t.sensor.state = .hasNoData ∧ t.sensor.code = .disconnected ∧ t.sensor.temperature = s.sensor.temperature) ∧
          (mean ≤ s.sensor.disconnectTemperature.toInt → mean < s.sensor.nopowerTemperature.toInt →
            t.sensor.state = .hasNoData ∧ t.sensor.code = .noPower ∧ t.sensor.temperature = s.sensor.temperature) ∧
          (mean ≤ s.sensor.disconnectTemperature.toInt → s.sensor.nopowerTemperature.toInt ≤ mean →
            t.sensor.state = .hasData ∧ t.sensor.code = .ok ∧ t.sensor.temperature.toInt = mean)

/-- O31. From R130, R133, R134, R136, R139 and R222 (the spec draws the table as its own inference in R140): every transition of the
sensor's state and the code that goes with it, over all operations: SNS_INIT (and DEVINIT) to `S_HAS_NO_DATA`; SNS_CB (and POLL) as
the table says, never out of `S_UNINIT` or `S_SHUTDOWN`; no other operation moves it. -/
def Obligations.SensorTransitions : Prop :=
  ∀ (i : Instr) (s t : State), exec i s = .next t →
    (i = .snsInit ∨ i = .devinit → t.sensor.state = .hasNoData ∧ t.sensor.code = .ok) ∧
      (i ≠ .snsInit → i ≠ .devinit →
        (t.sensor.state = s.sensor.state ∧ t.sensor.code = s.sensor.code) ∨
          ((i = .snsCb ∨ i = .poll) ∧ Sampling s.sensor ∧
            ((t.sensor.state = .shutdown ∧ t.sensor.code = .badReadings) ∨
              (t.sensor.state = .hasNoData ∧ t.sensor.code = .disconnected) ∨
              (t.sensor.state = .hasNoData ∧ t.sensor.code = .noPower) ∨
              (t.sensor.state = .hasData ∧ t.sensor.code = .ok))))

/-! ## PID -/

/-- O32. R150: everything PID_INIT does. -/
def Obligations.PidInitResult : Prop :=
  ∀ s : State,
    exec .pidInit s =
      .next { s with
        pid :=
          { error := 0, prevError := 0, integral := 0, derivative := 0, output := 0, kp := s.cfg.pidKp
            ki := s.cfg.pidKi, kd := s.cfg.pidKd, outMin := s.cfg.pidOutMin, outMax := s.cfg.pidOutMax }
        rsp := some ⟨.ok, 0⟩ }

/-- O33. R151 to R157: everything PID_COMPUTE does, for all operands and all states: the saturated error, the integral with its dead
band, the saturated derivative, one rounding toward zero of the exact sum, the clamp with its upper bound first, and the history. -/
def Obligations.PidComputeResult : Prop :=
  ∀ (setpoint measured : S32) (s : State),
    ∃ e i d o : S32,
      e.toInt = saturated (setpoint.toInt - measured.toInt) ∧
        i.toInt =
          (if s.cfg.pidEpsilon.toInt < |e.toInt| then saturated (s.pid.integral.toInt + e.toInt) else s.pid.integral.toInt) ∧
        d.toInt = saturated (e.toInt - s.pid.prevError.toInt) ∧
        (∀ q : Int,
          q = Int.tdiv (10 * s.pid.kp.toInt * e.toInt + s.pid.ki.toInt * i.toInt + 100 * s.pid.kd.toInt * d.toInt) 1000 →
            o.toInt =
              (if s.pid.outMax.toInt < q then s.pid.outMax.toInt
                else if q < s.pid.outMin.toInt then s.pid.outMin.toInt else q)) ∧
        exec (.pidCompute setpoint measured) s =
          .next { s with
            pid := { s.pid with error := e, prevError := e, integral := i, derivative := d, output := o }
            rsp := some ⟨.ok, o⟩ }

/-- O34. R53, R156: with the bounds in order the output lies between them; with the bounds the wrong way round it is one of the two.
-/
def Obligations.PidOutputBounded : Prop :=
  ∀ (setpoint measured : S32) (s : State), ∃ t : State, exec (.pidCompute setpoint measured) s = .next t ∧
    (s.pid.outMin.toInt ≤ s.pid.outMax.toInt →
      s.pid.outMin.toInt ≤ t.pid.output.toInt ∧ t.pid.output.toInt ≤ s.pid.outMax.toInt) ∧
    (s.pid.outMax.toInt < s.pid.outMin.toInt → t.pid.output = s.pid.outMax ∨ t.pid.output = s.pid.outMin)

/-- O35. From R152 to R157 (the spec draws it as its own inference in R160; its words 'every state field is the same except possibly
`pid.output`' are read with what R151 writes, so error and derivative become 0): at equilibrium PID_COMPUTE makes error, previous
error and derivative 0, keeps the integral, and a second one changes nothing; the output is 0 when the integral's share is below one
LSB and 0 lies within the bounds. -/
def Obligations.PidEquilibrium : Prop :=
  ∀ (v : S32) (s : State), s.pid.prevError = 0 → 0 ≤ s.cfg.pidEpsilon.toInt →
    ∃ o : S32,
      let t := { s with pid := { s.pid with error := 0, derivative := 0, output := o }, rsp := some ⟨.ok, o⟩ }
      exec (.pidCompute v v) s = .next t ∧ exec (.pidCompute v v) t = .next t ∧
        (|s.pid.ki.toInt * s.pid.integral.toInt| < 1000 → s.pid.outMin.toInt ≤ 0 → 0 ≤ s.pid.outMax.toInt → o = 0)

/-- O36. R158: the error history is changed by PID_COMPUTE and PID_INIT and what performs them: DEVINIT performs PID_INIT, HTR_CB
and POLL perform PID_COMPUTE, only in a regulating heater state with validated data; no other operation changes it. -/
def Obligations.PidHistoryOwners : Prop :=
  ∀ (i : Instr) (s t : State), exec i s = .next t →
    (t.pid.error ≠ s.pid.error ∨ t.pid.prevError ≠ s.pid.prevError ∨ t.pid.integral ≠ s.pid.integral ∨
        t.pid.derivative ≠ s.pid.derivative ∨ t.pid.output ≠ s.pid.output) →
      (∃ a b, i = .pidCompute a b) ∨ i = .pidInit ∨ i = .devinit ∨
        ((i = .htrCb ∨ i = .poll) ∧ (s.heater.state = .heating ∨ s.heater.state = .atTemperature) ∧
          t.sensor.state = .hasData)

/-! ## Heater -/

/-- O37. R170: everything HTR_INIT does: the set-point stays, the output is forced off. -/
def Obligations.HtrInitResult : Prop :=
  ∀ s : State,
    exec .htrInit s =
      .next { s with
        heater :=
          { state := .off, code := .ok, temperature := 0, setpoint := s.heater.setpoint, regulationTimer := 0
            ambientTimeout := s.cfg.htrAmbientTimeout, regulationTimeout := s.cfg.htrRegTimeout
            ambientTemperature := s.cfg.htrAmbientTemp, overheatTemperature := s.cfg.htrOverheatTemp }
        pwm := { s.pwm with mode := .off, compare := 0 }
        trace := s.trace ++ [.pwm .off s.pwm.top 0]
        rsp := some ⟨.ok, 0⟩ }

/-- O38. R171: HTR_ON in each heater state. -/
def Obligations.HtrOnResult : Prop :=
  ∀ s : State,
    exec .htrOn s =
      .next (match s.heater.state with
        | .uninit => { s with rsp := some ⟨.failed, 0⟩ }
        | .shutdown =>
          { s with
            heater :=
              { state := .on, code := .ok, temperature := 0, setpoint := s.heater.setpoint, regulationTimer := 0
                ambientTimeout := s.cfg.htrAmbientTimeout, regulationTimeout := s.cfg.htrRegTimeout
                ambientTemperature := s.cfg.htrAmbientTemp, overheatTemperature := s.cfg.htrOverheatTemp }
            pwm := { s.pwm with mode := .off, compare := 0 }
            trace := s.trace ++ [.pwm .off s.pwm.top 0]
            rsp := some ⟨.ok, 2⟩ }
        | .off => { s with heater := { s.heater with state := .on }, rsp := some ⟨.ok, 2⟩ }
        | .cooling => { s with heater := { s.heater with state := .on }, rsp := some ⟨.ok, 2⟩ }
        | .on => { s with rsp := some ⟨.ok, 2⟩ }
        | .heating => { s with rsp := some ⟨.ok, 3⟩ }
        | .atTemperature => { s with rsp := some ⟨.ok, 4⟩ })

/-- O39. R172: HTR_OFF in each heater state. -/
def Obligations.HtrOffResult : Prop :=
  ∀ s : State,
    exec .htrOff s =
      .next (match s.heater.state with
        | .uninit => { s with rsp := some ⟨.failed, 0⟩ }
        | .off => { s with rsp := some ⟨.ok, 1⟩ }
        | .cooling => { s with rsp := some ⟨.ok, 5⟩ }
        | .shutdown => { s with rsp := some ⟨.ok, 6⟩ }
        | .on =>
          { s with
            heater := { s.heater with state := .off }, pwm := { s.pwm with mode := .off, compare := 0 }
            trace := s.trace ++ [.pwm .off s.pwm.top 0], rsp := some ⟨.ok, 1⟩ }
        | .heating =>
          { s with
            heater := { s.heater with state := .off }, pwm := { s.pwm with mode := .off, compare := 0 }
            trace := s.trace ++ [.pwm .off s.pwm.top 0], rsp := some ⟨.ok, 1⟩ }
        | .atTemperature =>
          { s with
            heater := { s.heater with state := .off }, pwm := { s.pwm with mode := .off, compare := 0 }
            trace := s.trace ++ [.pwm .off s.pwm.top 0], rsp := some ⟨.ok, 1⟩ })

/-- O40. R174 to R176: HTR_CB outside `H_HEATING` and `H_AT_TEMPERATURE`, and in every active state without validated data: nothing
at all while inactive; otherwise the sample count restarts, and the output is forced off without data, the temperature recorded in
`H_COOLING`, and `H_HEATING` entered with the timer at 0 from `H_ON`. -/
def Obligations.HtrCbBeforeHeating : Prop :=
  ∀ s : State,
    (s.heater.state = .uninit ∨ s.heater.state = .off ∨ s.heater.state = .shutdown →
        exec .htrCb s = .next { s with rsp := some ⟨.ok, (heaterStateWord s.heater.state).zeroExtend 32⟩ }) ∧
      (s.heater.state ≠ .uninit → s.heater.state ≠ .off → s.heater.state ≠ .shutdown → s.sensor.state ≠ .hasData →
        exec .htrCb s =
          .next { s with
            sensor := { s.sensor with samples := 0 }
            pwm := { s.pwm with mode := .off, compare := 0 }
            trace := s.trace ++ [.pwm .off s.pwm.top 0]
            rsp := some ⟨.ok, (heaterStateWord s.heater.state).zeroExtend 32⟩ }) ∧
      (s.heater.state = .cooling → s.sensor.state = .hasData →
        exec .htrCb s =
          .next { s with
            sensor := { s.sensor with samples := 0 }
            heater := { s.heater with temperature := s.sensor.temperature }
            rsp := some ⟨.ok, 5⟩ }) ∧
      (s.heater.state = .on → s.sensor.state = .hasData →
        exec .htrCb s =
          .next { s with
            sensor := { s.sensor with samples := 0 }
            heater :=
              { s.heater with state := .heating, temperature := s.sensor.temperature, regulationTimer := 0 }
            rsp := some ⟨.ok, 3⟩ })

/-- O41. R177, R178: HTR_CB in `H_HEATING` with validated data: the timer advances by 1 up to its largest value; the ambient check,
then the regulation check, may shut the heater down with the output off; otherwise PID_COMPUTE on the set-point and the temperature,
and PWM_DUTY with its output. -/
def Obligations.HtrCbHeating : Prop :=
  ∀ s : State, s.heater.state = .heating → s.sensor.state = .hasData →
    ∃ timer : U32, timer.toNat = min (s.heater.regulationTimer.toNat + 1) 4294967295 ∧
      let r := { s with
                 sensor := { s.sensor with samples := 0 }
                 heater := { s.heater with temperature := s.sensor.temperature, regulationTimer := timer } }
      let ambient := s.heater.ambientTimeout.toNat ≤ timer.toNat ∧
        s.sensor.temperature.toInt < s.heater.ambientTemperature.toInt
      let regulation := s.heater.regulationTimeout.toNat ≤ timer.toNat ∧
        s.sensor.temperature.toInt < s.heater.setpoint.toInt
      (ambient →
          exec .htrCb s =
            .next { r with
              heater := { r.heater with state := .shutdown, code := .ambientTimedOut }
              pwm := { s.pwm with mode := .off, compare := 0 }
              trace := s.trace ++ [.pwm .off s.pwm.top 0]
              rsp := some ⟨.ok, 6⟩ }) ∧
        (¬ ambient → regulation →
          exec .htrCb s =
            .next { r with
              heater := { r.heater with state := .shutdown, code := .regulationTimedOut }
              pwm := { s.pwm with mode := .off, compare := 0 }
              trace := s.trace ++ [.pwm .off s.pwm.top 0]
              rsp := some ⟨.ok, 6⟩ }) ∧
        (¬ ambient → ¬ regulation →
          ∃ u v : State, exec (.pidCompute s.heater.setpoint s.sensor.temperature) r = .next u ∧
            exec (.pwmDuty u.pid.output) u = .next v ∧ exec .htrCb s = .next { v with rsp := some ⟨.ok, 3⟩ })

/-- O42. R179, R178: HTR_CB in `H_AT_TEMPERATURE` with validated data records the temperature and regulates; no timer advances and
no timeout is tested. -/
def Obligations.HtrCbAtTemperature : Prop :=
  ∀ s : State, s.heater.state = .atTemperature → s.sensor.state = .hasData →
    ∃ u v : State,
      exec (.pidCompute s.heater.setpoint s.sensor.temperature)
          { s with
            sensor := { s.sensor with samples := 0 }
            heater := { s.heater with temperature := s.sensor.temperature } } = .next u ∧
        exec (.pwmDuty u.pid.output) u = .next v ∧ exec .htrCb s = .next { v with rsp := some ⟨.ok, 4⟩ } ∧
        v.heater.state = .atTemperature ∧ v.heater.regulationTimer = s.heater.regulationTimer

/-- O43. From R176 and R177 (the spec draws it as its own inference in R182 (1)): with data at every callback and a temperature held
below the ambient threshold, the heater that enters `H_HEATING` at callback 0 is heating after callbacks 0 to T - 1 and shut down
with the ambient code, output off, after callback T, not before and not later. `w k` is the state before callback `k` and `u k` the
one after it; between them anything may run that leaves the heater's state, timer and ambient configuration alone. The premise `T ≤
regulation timeout` is needed: R177 (c) may otherwise end the session earlier. -/
def Obligations.AmbientTimeoutExact : Prop :=
  ∀ (w u : Nat → State) (T : Nat), 1 ≤ T →
    (w 0).heater.state = .on → (w 0).heater.ambientTimeout.toNat = T →
    (∀ k ≤ T, exec .htrCb (w k) = .next (u k)) →
    (∀ k ≤ T, (w k).sensor.state = .hasData ∧
      (w k).sensor.temperature.toInt < (w k).heater.ambientTemperature.toInt ∧ T ≤ (w k).heater.regulationTimeout.toNat) →
    (∀ k < T, (w (k + 1)).heater.state = (u k).heater.state ∧
      (w (k + 1)).heater.regulationTimer = (u k).heater.regulationTimer ∧
      (w (k + 1)).heater.ambientTimeout = (u k).heater.ambientTimeout) →
    (∀ k < T, (u k).heater.state = .heating ∧ (u k).heater.regulationTimer.toNat = k) ∧
      (u T).heater.state = .shutdown ∧ (u T).heater.code = .ambientTimedOut ∧ OutputOff (u T)

/-- O44. From R171, R174 and R176 (the spec draws it as its own inference in R182 (2)): HTR_ON from `H_SHUTDOWN` clears the timer
and the code, and the first HTR_CB that finds data, with the heater as HTR_ON left it, makes it `H_HEATING`. -/
def Obligations.RecoveryReachesHeating : Prop :=
  ∀ s : State, s.heater.state = .shutdown →
    ∃ t : State, exec .htrOn s = .next t ∧ t.heater.state = .on ∧ t.heater.regulationTimer = 0 ∧ t.heater.code = .ok ∧
      ∀ r : State, r.heater = t.heater →
        (r.sensor.state ≠ .hasData → ∃ u : State, exec .htrCb r = .next u ∧ u.heater = t.heater ∧ OutputOff u) ∧
        (r.sensor.state = .hasData →
          ∃ u : State, exec .htrCb r = .next u ∧ u.heater.state = .heating ∧ u.heater.regulationTimer = 0 ∧
            u.heater.code = .ok)

/-- O45. From R170 to R173 and R222 (the spec draws the table as its own inference in R181, and the unreachable states in R180):
every transition of the heater's state and the code that goes with it, over all operations: HTR_INIT (and DEVINIT) to `H_OFF`;
HTR_ON and HTR_OFF as the table says; HTR_CB (and POLL) to `H_HEATING` or to `H_SHUTDOWN`; no other operation moves it, and none
enters `H_AT_TEMPERATURE` or `H_COOLING`. -/
def Obligations.HeaterTransitions : Prop :=
  ∀ (i : Instr) (s t : State), exec i s = .next t →
    (t.heater.state = s.heater.state ∧ t.heater.code = s.heater.code) ∨
      ((i = .htrInit ∨ i = .devinit) ∧ t.heater.state = .off ∧ t.heater.code = .ok ∧ OutputOff t) ∨
      (i = .htrOn ∧ (s.heater.state = .off ∨ s.heater.state = .cooling) ∧ t.heater.state = .on ∧
        t.heater.code = s.heater.code) ∨
      (i = .htrOn ∧ s.heater.state = .shutdown ∧ t.heater.state = .on ∧ t.heater.code = .ok ∧ OutputOff t) ∨
      (i = .htrOff ∧ (s.heater.state = .on ∨ s.heater.state = .heating ∨ s.heater.state = .atTemperature) ∧
        t.heater.state = .off ∧ t.heater.code = s.heater.code ∧ OutputOff t) ∨
      ((i = .htrCb ∨ i = .poll) ∧ s.heater.state = .on ∧ t.sensor.state = .hasData ∧ t.heater.state = .heating ∧
        t.heater.code = s.heater.code ∧ t.heater.regulationTimer = 0) ∨
      ((i = .htrCb ∨ i = .poll) ∧ s.heater.state = .heating ∧ t.sensor.state = .hasData ∧ t.heater.state = .shutdown ∧
        (t.heater.code = .ambientTimedOut ∨ t.heater.code = .regulationTimedOut) ∧ OutputOff t)

/-- O46. R33, R60 (2): the regulation timer advances only in `H_HEATING`, by 1 in a callback, and is zeroed only by HTR_INIT (and
what performs it) and on the step from `H_ON` to `H_HEATING`; no other operation changes it. -/
def Obligations.RegulationTimerOwners : Prop :=
  ∀ (i : Instr) (s t : State), exec i s = .next t →
    t.heater.regulationTimer = s.heater.regulationTimer ∨
      (t.heater.regulationTimer = 0 ∧
        (i = .htrInit ∨ i = .devinit ∨ (i = .htrOn ∧ s.heater.state = .shutdown) ∨
          ((i = .htrCb ∨ i = .poll) ∧ s.heater.state = .on ∧ t.heater.state = .heating))) ∨
      (t.heater.regulationTimer.toNat = s.heater.regulationTimer.toNat + 1 ∧
        (i = .htrCb ∨ i = .poll) ∧ s.heater.state = .heating)

/-- O47. From R174, R177 and R221 (the spec draws it as its own inference in R225): a heater timeout turns the output off in the
operation that latches it; a callback of an active heater that finds no validated data turns it off, with the heater's fields as
they were; a protocol failure leaves it alone. -/
def Obligations.FailureTurnsOutputOff : Prop :=
  (∀ (i : Instr) (s t : State), exec i s = .next t → s.heater.state ≠ .shutdown → t.heater.state = .shutdown →
      OutputOff t) ∧
    (∀ s : State, s.heater.state = .on ∨ s.heater.state = .heating ∨ s.heater.state = .atTemperature ∨
        s.heater.state = .cooling → s.sensor.state ≠ .hasData →
      ∃ t : State, exec .htrCb s = .next t ∧ OutputOff t ∧ t.heater = s.heater) ∧
    ∀ (i : Instr) (s t : State) (r : Response), exec i s = .next t → t.rsp = some r → r.status ≠ .ok → t.pwm = s.pwm

/-! ## Register interface and field access -/

/-- O48. R200, R72, R76: REGRD answers the byte the map places at the address, zero-extended, and `INVALID_ADDRESS` from 24 on; it
changes nothing. -/
def Obligations.RegrdResult : Prop :=
  ∀ (a : U32) (s : State),
    (∀ h : a.toNat < (registerFile s).length,
        exec (.regrd a) s = .next { s with rsp := some ⟨.ok, ((registerFile s)[a.toNat]'h).zeroExtend 32⟩ }) ∧
      (registerFile s).length = 24 ∧
      (24 ≤ a.toNat → exec (.regrd a) s = .next { s with rsp := some ⟨.invalidAddress, 0⟩ })

/-- O49. R201, R73: REGWR from address 24 on fails and changes nothing; on a read-only byte it answers OK and changes nothing; on a
read-write byte it replaces that byte of the register file with `B[7:0]` and no other, and no state but the set-point or a gain. -/
def Obligations.RegwrResult : Prop :=
  ∀ (a b : U32) (s : State),
    (24 ≤ a.toNat → exec (.regwr a b) s = .next { s with rsp := some ⟨.invalidAddress, 0⟩ }) ∧
      (a.toNat < 0x02 ∨ (0x06 ≤ a.toNat ∧ a.toNat < 0x0C) → exec (.regwr a b) s = .next { s with rsp := some ⟨.ok, 0⟩ }) ∧
      ((0x02 ≤ a.toNat ∧ a.toNat < 0x06) ∨ (0x0C ≤ a.toNat ∧ a.toNat < 0x18) →
        ∃ (setpoint kp ki kd : S32) (t : State),
          exec (.regwr a b) s = .next t ∧ t = { withHostFields setpoint kp ki kd s with rsp := some ⟨.ok, 0⟩ } ∧
            registerFile t = (registerFile s).set a.toNat (b.extractLsb' 0 8))

/-- O50. R203: what the host can do. Its two operations change the set-point, the gains and the response and nothing else, so no
state machine moves and the output stays; and what they answer depends on no state but the nine fields of the register file. -/
def Obligations.HostCannotReach : Prop :=
  (∀ (i : Instr) (s : State), i.hostMayIssue = true →
      ∃ (setpoint kp ki kd : S32) (r : Response),
        exec i s = .next { withHostFields setpoint kp ki kd s with rsp := some r }) ∧
    ∀ (i : Instr) (s s' t t' : State), i.hostMayIssue = true → registerFile s = registerFile s' →
      exec i s = .next t → exec i s' = .next t' → t.rsp = t'.rsp ∧ registerFile t = registerFile t'

/-- O51. R205, R59: FLDRD answers each of the 38 defined fields: an unsigned one zero-extended, a signed one as its two's-complement
pattern, the accumulator in two parts that give it back; any other id, any above 0xFF among them, answers `INVALID_FIELD`. It
changes nothing. -/
def Obligations.FldrdResult : Prop :=
  ∀ s : State,
    (∀ p ∈ unsignedFields s, ∃ d : U32, d.toNat = p.2 ∧ exec (.fldrd p.1) s = .next { s with rsp := some ⟨.ok, d⟩ }) ∧
      (∀ p ∈ signedFields s, ∃ d : U32, d.toInt = p.2 ∧ exec (.fldrd p.1) s = .next { s with rsp := some ⟨.ok, d⟩ }) ∧
      (∃ lo hi : U32, exec (.fldrd 0x27) s = .next { s with rsp := some ⟨.ok, lo⟩ } ∧
        exec (.fldrd 0x28) s = .next { s with rsp := some ⟨.ok, hi⟩ } ∧
        s.sensor.accumulator.toInt = hi.toInt * 4294967296 + lo.toNat) ∧
      ((unsignedFields s).length + (signedFields s).length + 2 = definedIds.length ∧ definedIds.length = 38) ∧
      ∀ id : U32, id.toNat ∉ definedIds → exec (.fldrd id) s = .next { s with rsp := some ⟨.invalidField, 0⟩ }

/-- O52. R206 to R208: what CFGWR does for each of the 15 cfg ids, and the refusals: an id that is not one of them, or a value above
255 for a U8 field, changes nothing. -/
def Obligations.CfgwrResult : Prop :=
  ∀ (v : U32) (s : State),
    exec (.cfgwr 0x13 v) s = .next { s with heater := { s.heater with setpoint := v }, rsp := some ⟨.ok, 0⟩ } ∧
      exec (.cfgwr 0x15 v) s = .next { s with heater := { s.heater with ambientTimeout := v }, rsp := some ⟨.ok, 0⟩ } ∧
      exec (.cfgwr 0x16 v) s = .next { s with heater := { s.heater with regulationTimeout := v }, rsp := some ⟨.ok, 0⟩ } ∧
      exec (.cfgwr 0x17 v) s = .next { s with heater := { s.heater with ambientTemperature := v }, rsp := some ⟨.ok, 0⟩ } ∧
      exec (.cfgwr 0x18 v) s = .next { s with heater := { s.heater with overheatTemperature := v }, rsp := some ⟨.ok, 0⟩ } ∧
      exec (.cfgwr 0x29 v) s = .next { s with sensor := { s.sensor with variance := v }, rsp := some ⟨.ok, 0⟩ } ∧
      exec (.cfgwr 0x2A v) s = .next { s with sensor := { s.sensor with disconnectTemperature := v }, rsp := some ⟨.ok, 0⟩ } ∧
      exec (.cfgwr 0x2B v) s = .next { s with sensor := { s.sensor with nopowerTemperature := v }, rsp := some ⟨.ok, 0⟩ } ∧
      exec (.cfgwr 0x35 v) s = .next { s with pid := { s.pid with kp := v }, rsp := some ⟨.ok, 0⟩ } ∧
      exec (.cfgwr 0x36 v) s = .next { s with pid := { s.pid with ki := v }, rsp := some ⟨.ok, 0⟩ } ∧
      exec (.cfgwr 0x37 v) s = .next { s with pid := { s.pid with kd := v }, rsp := some ⟨.ok, 0⟩ } ∧
      exec (.cfgwr 0x38 v) s = .next { s with pid := { s.pid with outMin := v }, rsp := some ⟨.ok, 0⟩ } ∧
      exec (.cfgwr 0x39 v) s = .next { s with pid := { s.pid with outMax := v }, rsp := some ⟨.ok, 0⟩ } ∧
      (v.toNat ≤ 255 → ∃ n : U8, n.toNat = v.toNat ∧
        exec (.cfgwr 0x22 v) s =
            .next { s with sensor := { s.sensor with spr := n, samples := 0 }, rsp := some ⟨.ok, 0⟩ } ∧
          exec (.cfgwr 0x24 v) s = .next { s with sensor := { s.sensor with retries := n }, rsp := some ⟨.ok, 0⟩ }) ∧
      (255 < v.toNat →
        exec (.cfgwr 0x22 v) s = .next { s with rsp := some ⟨.invalidField, 0⟩ } ∧
          exec (.cfgwr 0x24 v) s = .next { s with rsp := some ⟨.invalidField, 0⟩ }) ∧
      ∀ id : U32, id.toNat ∉ cfgIds → exec (.cfgwr id v) s = .next { s with rsp := some ⟨.invalidField, 0⟩ }

/-! ## The whole block -/

/-- O53. R250, R59: for every CFG, every defined field reads 0 after reset but the two counters, which read 10, and the trace is
empty. -/
def Obligations.ResetState : Prop :=
  ∀ c : Cfg,
    (∀ id : U32, id.toNat ∈ definedIds →
      exec (.fldrd id) (State.resetWith c) =
        .next { State.resetWith c with rsp := some ⟨.ok, if id = 0x01 ∨ id = 0x02 then 10 else 0⟩ }) ∧
      (State.resetWith c).trace = [] ∧ (State.resetWith c).cfg = c

/-- O54. R250 with R24, R60, R157, R222, R26: the reset state meets the invariant for every well-formed CFG, with the output off. -/
def Obligations.ResetIsSafe : Prop :=
  (∀ c : Cfg, c.wellFormed = true → SafeState (State.resetWith c) ∧ OutputOff (State.resetWith c)) ∧
    SafeState State.reset ∧ OutputOff State.reset

/-- O55. R24, R60 (1), R157, R222, R26, with what the spec infers of the counters, the sum and the unreachable states in R23, R45
and R180: every step, from every state that meets the invariant, keeps it: the counters stay 1 to 10, the samples stay within the
period and their sum within its bounds, the diagnostics go with their states, `H_AT_TEMPERATURE` and `H_COOLING` are not entered,
the error history agrees and the top-value is 0 or in range. -/
def Obligations.StepKeepsSafeState : Prop :=
  ∀ s t : State, SafeState s → step s = .next t → SafeState t

/-- O56. R70, R73, R76: every byte of the register file is unchanged except the ones the operation stores to. -/
def Obligations.RegisterFileFrame : Prop :=
  ∀ (i : Instr) (s t : State) (a : Nat), exec i s = .next t → a ∉ storedAddresses i → memRead a t = memRead a s

/-- O57. R66, R22, R25, R26, R28, R32: the frame of all operations: which operation may change which field. -/
def Obligations.OwnershipFrame : Prop :=
  ∀ (i : Instr) (s t : State), exec i s = .next t →
    t.cfg = s.cfg ∧ t.inputs = s.inputs ∧
      (t.dev.tickFlag ≠ s.dev.tickFlag ∨ t.dev.cnt100ms ≠ s.dev.cnt100ms ∨ t.dev.cnt1s ≠ s.dev.cnt1s →
        i = .devinit ∨ i = .poll) ∧
      (t.dev.pwmFreq ≠ s.dev.pwmFreq ∨ t.pwm.top ≠ s.pwm.top → i = .devinit ∨ ∃ hz, i = .pwmFreq hz) ∧
      (t.pwm.mode ≠ s.pwm.mode ∨ t.pwm.compare ≠ s.pwm.compare →
        i = .devinit ∨ i = .poll ∨ i = .htrInit ∨ (i = .htrOn ∧ s.heater.state = .shutdown) ∨ i = .htrOff ∨ i = .htrCb ∨
          ∃ p, i = .pwmDuty p) ∧
      (t.heater.setpoint ≠ s.heater.setpoint → (∃ a b, i = .regwr a b) ∨ ∃ v, i = .cfgwr 0x13 v) ∧
      (t.heater ≠ s.heater →
        i = .devinit ∨ i = .poll ∨ i = .htrInit ∨ i = .htrOn ∨ i = .htrOff ∨ i = .htrCb ∨ (∃ a b, i = .regwr a b) ∨
          ∃ id v, i = .cfgwr id v) ∧
      (t.sensor ≠ s.sensor →
        i = .devinit ∨ i = .poll ∨ i = .snsInit ∨ i = .snsStart ∨ i = .snsCb ∨ i = .htrCb ∨ ∃ id v, i = .cfgwr id v) ∧
      (t.pid ≠ s.pid →
        i = .devinit ∨ i = .poll ∨ i = .pidInit ∨ i = .htrCb ∨ (∃ a b, i = .pidCompute a b) ∨ (∃ a b, i = .regwr a b) ∨
          ∃ id v, i = .cfgwr id v) ∧
      (t.sampleQueue ≠ s.sampleQueue ∨ t.freeDraws ≠ s.freeDraws → i = .poll ∨ i = .snsCb)

/-- O58. R62: the event trace is append-only, and only the operations that emit an event add to it; REGRD, REGWR, FLDRD and CFGWR
never do. -/
def Obligations.TraceGrows : Prop :=
  ∀ (i : Instr) (s t : State), exec i s = .next t →
    (∃ l : List Event, t.trace = s.trace ++ l) ∧
      (t.trace ≠ s.trace →
        i = .devinit ∨ i = .poll ∨ i = .snsCb ∨ i = .htrInit ∨ (i = .htrOn ∧ s.heater.state = .shutdown) ∨ i = .htrOff ∨
          i = .htrCb ∨ (∃ hz, i = .pwmFreq hz) ∨ ∃ p, i = .pwmDuty p)

/-- O59. From R22 and R79 (the spec draws it as its own inference in R80, whose 'no other operation reads the flag' leaves FLDRD of
the flag out of sight): an operation other than DEVINIT, TICKQ, POLL and an FLDRD of the flag itself neither reads nor writes the
flag, so a TICK just before it and one just after it leave the same state but for the place of EV_TICK in the trace. -/
def Obligations.FlagObliviousOperations : Prop :=
  ∀ (i : Instr) (s : State) (b : Bool), i ≠ .devinit → i ≠ .tickq → i ≠ .poll → i ≠ .fldrd 0x00 →
    ∃ t : State, exec i s = .next t ∧ t.dev.tickFlag = s.dev.tickFlag ∧
      exec i { s with dev := { s.dev with tickFlag := b } } = .next { t with dev := { t.dev with tickFlag := b } }
end

