-- ==== Sys2Proof/Laws/State.lean ====
section
/-! SUPPORT. One lemma per field of State for each named update, true by rfl, so that no later proof unfolds a record update. -/

namespace Sys2Proof.Machine

/-! ## respond -/

@[simp] theorem respond_cfg (st : Status) (d : U32) (s : State) : (s.respond st d).cfg = s.cfg := rfl
@[simp] theorem respond_dev (st : Status) (d : U32) (s : State) : (s.respond st d).dev = s.dev := rfl
@[simp] theorem respond_pwm (st : Status) (d : U32) (s : State) : (s.respond st d).pwm = s.pwm := rfl
@[simp] theorem respond_heater (st : Status) (d : U32) (s : State) : (s.respond st d).heater = s.heater := rfl
@[simp] theorem respond_sensor (st : Status) (d : U32) (s : State) : (s.respond st d).sensor = s.sensor := rfl
@[simp] theorem respond_pid (st : Status) (d : U32) (s : State) : (s.respond st d).pid = s.pid := rfl
@[simp] theorem respond_trace (st : Status) (d : U32) (s : State) : (s.respond st d).trace = s.trace := rfl
@[simp] theorem respond_rsp (st : Status) (d : U32) (s : State) : (s.respond st d).rsp = some ⟨st, d⟩ := rfl
@[simp] theorem respond_inputs (st : Status) (d : U32) (s : State) : (s.respond st d).inputs = s.inputs := rfl
@[simp] theorem respond_sampleQueue (st : Status) (d : U32) (s : State) : (s.respond st d).sampleQueue = s.sampleQueue := rfl
@[simp] theorem respond_freeDraws (st : Status) (d : U32) (s : State) : (s.respond st d).freeDraws = s.freeDraws := rfl

/-! ## emit -/

@[simp] theorem emit_cfg (e : Event) (s : State) : (s.emit e).cfg = s.cfg := rfl
@[simp] theorem emit_dev (e : Event) (s : State) : (s.emit e).dev = s.dev := rfl
@[simp] theorem emit_pwm (e : Event) (s : State) : (s.emit e).pwm = s.pwm := rfl
@[simp] theorem emit_heater (e : Event) (s : State) : (s.emit e).heater = s.heater := rfl
@[simp] theorem emit_sensor (e : Event) (s : State) : (s.emit e).sensor = s.sensor := rfl
@[simp] theorem emit_pid (e : Event) (s : State) : (s.emit e).pid = s.pid := rfl
@[simp] theorem emit_trace (e : Event) (s : State) : (s.emit e).trace = s.trace ++ [e] := rfl
@[simp] theorem emit_rsp (e : Event) (s : State) : (s.emit e).rsp = s.rsp := rfl
@[simp] theorem emit_inputs (e : Event) (s : State) : (s.emit e).inputs = s.inputs := rfl
@[simp] theorem emit_sampleQueue (e : Event) (s : State) : (s.emit e).sampleQueue = s.sampleQueue := rfl
@[simp] theorem emit_freeDraws (e : Event) (s : State) : (s.emit e).freeDraws = s.freeDraws := rfl

/-! ## tickEvent -/

@[simp] theorem tickEvent_cfg (s : State) : (tickEvent s).cfg = s.cfg := rfl
@[simp] theorem tickEvent_dev (s : State) : (tickEvent s).dev = { s.dev with tickFlag := true } := rfl
@[simp] theorem tickEvent_pwm (s : State) : (tickEvent s).pwm = s.pwm := rfl
@[simp] theorem tickEvent_heater (s : State) : (tickEvent s).heater = s.heater := rfl
@[simp] theorem tickEvent_sensor (s : State) : (tickEvent s).sensor = s.sensor := rfl
@[simp] theorem tickEvent_pid (s : State) : (tickEvent s).pid = s.pid := rfl
@[simp] theorem tickEvent_trace (s : State) : (tickEvent s).trace = s.trace ++ [.tick] := rfl
@[simp] theorem tickEvent_rsp (s : State) : (tickEvent s).rsp = s.rsp := rfl
@[simp] theorem tickEvent_inputs (s : State) : (tickEvent s).inputs = s.inputs := rfl
@[simp] theorem tickEvent_sampleQueue (s : State) : (tickEvent s).sampleQueue = s.sampleQueue := rfl
@[simp] theorem tickEvent_freeDraws (s : State) : (tickEvent s).freeDraws = s.freeDraws := rfl

/-! ## present -/

@[simp] theorem present_cfg (w : CmdWord) (s : State) : (present w s).cfg = s.cfg := rfl
@[simp] theorem present_dev (w : CmdWord) (s : State) : (present w s).dev = s.dev := rfl
@[simp] theorem present_pwm (w : CmdWord) (s : State) : (present w s).pwm = s.pwm := rfl
@[simp] theorem present_heater (w : CmdWord) (s : State) : (present w s).heater = s.heater := rfl
@[simp] theorem present_sensor (w : CmdWord) (s : State) : (present w s).sensor = s.sensor := rfl
@[simp] theorem present_pid (w : CmdWord) (s : State) : (present w s).pid = s.pid := rfl
@[simp] theorem present_trace (w : CmdWord) (s : State) : (present w s).trace = s.trace := rfl
@[simp] theorem present_rsp (w : CmdWord) (s : State) : (present w s).rsp = s.rsp := rfl
@[simp] theorem present_inputs (w : CmdWord) (s : State) : (present w s).inputs = .command w :: s.inputs := rfl
@[simp] theorem present_sampleQueue (w : CmdWord) (s : State) : (present w s).sampleQueue = s.sampleQueue := rfl
@[simp] theorem present_freeDraws (w : CmdWord) (s : State) : (present w s).freeDraws = s.freeDraws := rfl

/-! ## setCnt100ms -/

@[simp] theorem setCnt100ms_cfg (c : U8) (s : State) : (setCnt100ms c s).cfg = s.cfg := rfl
@[simp] theorem setCnt100ms_dev (c : U8) (s : State) : (setCnt100ms c s).dev = { s.dev with cnt100ms := c } := rfl
@[simp] theorem setCnt100ms_pwm (c : U8) (s : State) : (setCnt100ms c s).pwm = s.pwm := rfl
@[simp] theorem setCnt100ms_heater (c : U8) (s : State) : (setCnt100ms c s).heater = s.heater := rfl
@[simp] theorem setCnt100ms_sensor (c : U8) (s : State) : (setCnt100ms c s).sensor = s.sensor := rfl
@[simp] theorem setCnt100ms_pid (c : U8) (s : State) : (setCnt100ms c s).pid = s.pid := rfl
@[simp] theorem setCnt100ms_trace (c : U8) (s : State) : (setCnt100ms c s).trace = s.trace := rfl
@[simp] theorem setCnt100ms_rsp (c : U8) (s : State) : (setCnt100ms c s).rsp = s.rsp := rfl
@[simp] theorem setCnt100ms_inputs (c : U8) (s : State) : (setCnt100ms c s).inputs = s.inputs := rfl
@[simp] theorem setCnt100ms_sampleQueue (c : U8) (s : State) : (setCnt100ms c s).sampleQueue = s.sampleQueue := rfl
@[simp] theorem setCnt100ms_freeDraws (c : U8) (s : State) : (setCnt100ms c s).freeDraws = s.freeDraws := rfl

/-! ## setCnt1s -/

@[simp] theorem setCnt1s_cfg (c : U8) (s : State) : (setCnt1s c s).cfg = s.cfg := rfl
@[simp] theorem setCnt1s_dev (c : U8) (s : State) : (setCnt1s c s).dev = { s.dev with cnt1s := c } := rfl
@[simp] theorem setCnt1s_pwm (c : U8) (s : State) : (setCnt1s c s).pwm = s.pwm := rfl
@[simp] theorem setCnt1s_heater (c : U8) (s : State) : (setCnt1s c s).heater = s.heater := rfl
@[simp] theorem setCnt1s_sensor (c : U8) (s : State) : (setCnt1s c s).sensor = s.sensor := rfl
@[simp] theorem setCnt1s_pid (c : U8) (s : State) : (setCnt1s c s).pid = s.pid := rfl
@[simp] theorem setCnt1s_trace (c : U8) (s : State) : (setCnt1s c s).trace = s.trace := rfl
@[simp] theorem setCnt1s_rsp (c : U8) (s : State) : (setCnt1s c s).rsp = s.rsp := rfl
@[simp] theorem setCnt1s_inputs (c : U8) (s : State) : (setCnt1s c s).inputs = s.inputs := rfl
@[simp] theorem setCnt1s_sampleQueue (c : U8) (s : State) : (setCnt1s c s).sampleQueue = s.sampleQueue := rfl
@[simp] theorem setCnt1s_freeDraws (c : U8) (s : State) : (setCnt1s c s).freeDraws = s.freeDraws := rfl

/-! ## clearTick -/

@[simp] theorem clearTick_cfg (s : State) : (clearTick s).cfg = s.cfg := rfl
@[simp] theorem clearTick_dev (s : State) : (clearTick s).dev = { s.dev with tickFlag := false } := rfl
@[simp] theorem clearTick_pwm (s : State) : (clearTick s).pwm = s.pwm := rfl
@[simp] theorem clearTick_heater (s : State) : (clearTick s).heater = s.heater := rfl
@[simp] theorem clearTick_sensor (s : State) : (clearTick s).sensor = s.sensor := rfl
@[simp] theorem clearTick_pid (s : State) : (clearTick s).pid = s.pid := rfl
@[simp] theorem clearTick_trace (s : State) : (clearTick s).trace = s.trace := rfl
@[simp] theorem clearTick_rsp (s : State) : (clearTick s).rsp = s.rsp := rfl
@[simp] theorem clearTick_inputs (s : State) : (clearTick s).inputs = s.inputs := rfl
@[simp] theorem clearTick_sampleQueue (s : State) : (clearTick s).sampleQueue = s.sampleQueue := rfl
@[simp] theorem clearTick_freeDraws (s : State) : (clearTick s).freeDraws = s.freeDraws := rfl

/-! ## devReset -/

@[simp] theorem devReset_cfg (s : State) : (devReset s).cfg = s.cfg := rfl
@[simp] theorem devReset_dev (s : State) : (devReset s).dev = { s.dev with tickFlag := false, cnt100ms := 10, cnt1s := 10 } := rfl
@[simp] theorem devReset_pwm (s : State) : (devReset s).pwm = s.pwm := rfl
@[simp] theorem devReset_heater (s : State) : (devReset s).heater = s.heater := rfl
@[simp] theorem devReset_sensor (s : State) : (devReset s).sensor = s.sensor := rfl
@[simp] theorem devReset_pid (s : State) : (devReset s).pid = s.pid := rfl
@[simp] theorem devReset_trace (s : State) : (devReset s).trace = s.trace := rfl
@[simp] theorem devReset_rsp (s : State) : (devReset s).rsp = s.rsp := rfl
@[simp] theorem devReset_inputs (s : State) : (devReset s).inputs = s.inputs := rfl
@[simp] theorem devReset_sampleQueue (s : State) : (devReset s).sampleQueue = s.sampleQueue := rfl
@[simp] theorem devReset_freeDraws (s : State) : (devReset s).freeDraws = s.freeDraws := rfl

/-! ## handler1s -/

@[simp] theorem handler1s_cfg (s : State) : (handler1s s).cfg = s.cfg := rfl
@[simp] theorem handler1s_dev (s : State) : (handler1s s).dev = s.dev := rfl
@[simp] theorem handler1s_pwm (s : State) : (handler1s s).pwm = s.pwm := rfl
@[simp] theorem handler1s_heater (s : State) : (handler1s s).heater = s.heater := rfl
@[simp] theorem handler1s_sensor (s : State) : (handler1s s).sensor = s.sensor := rfl
@[simp] theorem handler1s_pid (s : State) : (handler1s s).pid = s.pid := rfl
@[simp] theorem handler1s_trace (s : State) : (handler1s s).trace = s.trace ++ [.s1] := rfl
@[simp] theorem handler1s_rsp (s : State) : (handler1s s).rsp = s.rsp := rfl
@[simp] theorem handler1s_inputs (s : State) : (handler1s s).inputs = s.inputs := rfl
@[simp] theorem handler1s_sampleQueue (s : State) : (handler1s s).sampleQueue = s.sampleQueue := rfl
@[simp] theorem handler1s_freeDraws (s : State) : (handler1s s).freeDraws = s.freeDraws := rfl

/-! ## snsInit -/

@[simp] theorem snsInit_cfg (s : State) : (snsInit s).cfg = s.cfg := rfl
@[simp] theorem snsInit_dev (s : State) : (snsInit s).dev = s.dev := rfl
@[simp] theorem snsInit_pwm (s : State) : (snsInit s).pwm = s.pwm := rfl
@[simp] theorem snsInit_heater (s : State) : (snsInit s).heater = s.heater := rfl
@[simp] theorem snsInit_sensor (s : State) : (snsInit s).sensor = sensorInitial s.cfg := rfl
@[simp] theorem snsInit_pid (s : State) : (snsInit s).pid = s.pid := rfl
@[simp] theorem snsInit_trace (s : State) : (snsInit s).trace = s.trace := rfl
@[simp] theorem snsInit_rsp (s : State) : (snsInit s).rsp = s.rsp := rfl
@[simp] theorem snsInit_inputs (s : State) : (snsInit s).inputs = s.inputs := rfl
@[simp] theorem snsInit_sampleQueue (s : State) : (snsInit s).sampleQueue = s.sampleQueue := rfl
@[simp] theorem snsInit_freeDraws (s : State) : (snsInit s).freeDraws = s.freeDraws := rfl

/-! ## snsStart -/

@[simp] theorem snsStart_cfg (s : State) : (snsStart s).cfg = s.cfg := rfl
@[simp] theorem snsStart_dev (s : State) : (snsStart s).dev = s.dev := rfl
@[simp] theorem snsStart_pwm (s : State) : (snsStart s).pwm = s.pwm := rfl
@[simp] theorem snsStart_heater (s : State) : (snsStart s).heater = s.heater := rfl
@[simp] theorem snsStart_sensor (s : State) : (snsStart s).sensor = { s.sensor with samples := 0 } := rfl
@[simp] theorem snsStart_pid (s : State) : (snsStart s).pid = s.pid := rfl
@[simp] theorem snsStart_trace (s : State) : (snsStart s).trace = s.trace := rfl
@[simp] theorem snsStart_rsp (s : State) : (snsStart s).rsp = s.rsp := rfl
@[simp] theorem snsStart_inputs (s : State) : (snsStart s).inputs = s.inputs := rfl
@[simp] theorem snsStart_sampleQueue (s : State) : (snsStart s).sampleQueue = s.sampleQueue := rfl
@[simp] theorem snsStart_freeDraws (s : State) : (snsStart s).freeDraws = s.freeDraws := rfl

/-! ## pidInit -/

@[simp] theorem pidInit_cfg (s : State) : (pidInit s).cfg = s.cfg := rfl
@[simp] theorem pidInit_dev (s : State) : (pidInit s).dev = s.dev := rfl
@[simp] theorem pidInit_pwm (s : State) : (pidInit s).pwm = s.pwm := rfl
@[simp] theorem pidInit_heater (s : State) : (pidInit s).heater = s.heater := rfl
@[simp] theorem pidInit_sensor (s : State) : (pidInit s).sensor = s.sensor := rfl
@[simp] theorem pidInit_pid (s : State) : (pidInit s).pid = pidInitial s.cfg := rfl
@[simp] theorem pidInit_trace (s : State) : (pidInit s).trace = s.trace := rfl
@[simp] theorem pidInit_rsp (s : State) : (pidInit s).rsp = s.rsp := rfl
@[simp] theorem pidInit_inputs (s : State) : (pidInit s).inputs = s.inputs := rfl
@[simp] theorem pidInit_sampleQueue (s : State) : (pidInit s).sampleQueue = s.sampleQueue := rfl
@[simp] theorem pidInit_freeDraws (s : State) : (pidInit s).freeDraws = s.freeDraws := rfl

/-! ## pidCompute -/

@[simp] theorem pidCompute_cfg (a b : S32) (s : State) : (pidCompute a b s).cfg = s.cfg := rfl
@[simp] theorem pidCompute_dev (a b : S32) (s : State) : (pidCompute a b s).dev = s.dev := rfl
@[simp] theorem pidCompute_pwm (a b : S32) (s : State) : (pidCompute a b s).pwm = s.pwm := rfl
@[simp] theorem pidCompute_heater (a b : S32) (s : State) : (pidCompute a b s).heater = s.heater := rfl
@[simp] theorem pidCompute_sensor (a b : S32) (s : State) : (pidCompute a b s).sensor = s.sensor := rfl
@[simp] theorem pidCompute_pid (a b : S32) (s : State) : (pidCompute a b s).pid = pidStep s.cfg a b s.pid := rfl
@[simp] theorem pidCompute_trace (a b : S32) (s : State) : (pidCompute a b s).trace = s.trace := rfl
@[simp] theorem pidCompute_rsp (a b : S32) (s : State) : (pidCompute a b s).rsp = s.rsp := rfl
@[simp] theorem pidCompute_inputs (a b : S32) (s : State) : (pidCompute a b s).inputs = s.inputs := rfl
@[simp] theorem pidCompute_sampleQueue (a b : S32) (s : State) : (pidCompute a b s).sampleQueue = s.sampleQueue := rfl
@[simp] theorem pidCompute_freeDraws (a b : S32) (s : State) : (pidCompute a b s).freeDraws = s.freeDraws := rfl

/-! ## pwmFreq -/

@[simp] theorem pwmFreq_cfg (hz : U32) (s : State) : (pwmFreq hz s).cfg = s.cfg := rfl
@[simp] theorem pwmFreq_dev (hz : U32) (s : State) : (pwmFreq hz s).dev = { s.dev with pwmFreq := pwmFreqFor s.cfg (pwmTopFor s.cfg hz) } := rfl
@[simp] theorem pwmFreq_pwm (hz : U32) (s : State) : (pwmFreq hz s).pwm = { s.pwm with top := pwmTopFor s.cfg hz } := rfl
@[simp] theorem pwmFreq_heater (hz : U32) (s : State) : (pwmFreq hz s).heater = s.heater := rfl
@[simp] theorem pwmFreq_sensor (hz : U32) (s : State) : (pwmFreq hz s).sensor = s.sensor := rfl
@[simp] theorem pwmFreq_pid (hz : U32) (s : State) : (pwmFreq hz s).pid = s.pid := rfl
@[simp] theorem pwmFreq_trace (hz : U32) (s : State) : (pwmFreq hz s).trace = s.trace ++ [.pwm s.pwm.mode (pwmTopFor s.cfg hz) s.pwm.compare] := rfl
@[simp] theorem pwmFreq_rsp (hz : U32) (s : State) : (pwmFreq hz s).rsp = s.rsp := rfl
@[simp] theorem pwmFreq_inputs (hz : U32) (s : State) : (pwmFreq hz s).inputs = s.inputs := rfl
@[simp] theorem pwmFreq_sampleQueue (hz : U32) (s : State) : (pwmFreq hz s).sampleQueue = s.sampleQueue := rfl
@[simp] theorem pwmFreq_freeDraws (hz : U32) (s : State) : (pwmFreq hz s).freeDraws = s.freeDraws := rfl

/-! ## pwmDuty -/

@[simp] theorem pwmDuty_cfg (p : Int) (s : State) : (pwmDuty p s).cfg = s.cfg := rfl
@[simp] theorem pwmDuty_dev (p : Int) (s : State) : (pwmDuty p s).dev = s.dev := rfl
@[simp] theorem pwmDuty_pwm (p : Int) (s : State) : (pwmDuty p s).pwm = { s.pwm with mode := pwmModeFor p, compare := pwmCompareFor s.pwm.top p } := rfl
@[simp] theorem pwmDuty_heater (p : Int) (s : State) : (pwmDuty p s).heater = s.heater := rfl
@[simp] theorem pwmDuty_sensor (p : Int) (s : State) : (pwmDuty p s).sensor = s.sensor := rfl
@[simp] theorem pwmDuty_pid (p : Int) (s : State) : (pwmDuty p s).pid = s.pid := rfl
@[simp] theorem pwmDuty_trace (p : Int) (s : State) : (pwmDuty p s).trace = s.trace ++ [.pwm (pwmModeFor p) s.pwm.top (pwmCompareFor s.pwm.top p)] := rfl
@[simp] theorem pwmDuty_rsp (p : Int) (s : State) : (pwmDuty p s).rsp = s.rsp := rfl
@[simp] theorem pwmDuty_inputs (p : Int) (s : State) : (pwmDuty p s).inputs = s.inputs := rfl
@[simp] theorem pwmDuty_sampleQueue (p : Int) (s : State) : (pwmDuty p s).sampleQueue = s.sampleQueue := rfl
@[simp] theorem pwmDuty_freeDraws (p : Int) (s : State) : (pwmDuty p s).freeDraws = s.freeDraws := rfl

/-! ## setHeaterState -/

@[simp] theorem setHeaterState_cfg (v : HeaterState) (s : State) : (setHeaterState v s).cfg = s.cfg := rfl
@[simp] theorem setHeaterState_dev (v : HeaterState) (s : State) : (setHeaterState v s).dev = s.dev := rfl
@[simp] theorem setHeaterState_pwm (v : HeaterState) (s : State) : (setHeaterState v s).pwm = s.pwm := rfl
@[simp] theorem setHeaterState_heater (v : HeaterState) (s : State) : (setHeaterState v s).heater = { s.heater with state := v } := rfl
@[simp] theorem setHeaterState_sensor (v : HeaterState) (s : State) : (setHeaterState v s).sensor = s.sensor := rfl
@[simp] theorem setHeaterState_pid (v : HeaterState) (s : State) : (setHeaterState v s).pid = s.pid := rfl
@[simp] theorem setHeaterState_trace (v : HeaterState) (s : State) : (setHeaterState v s).trace = s.trace := rfl
@[simp] theorem setHeaterState_rsp (v : HeaterState) (s : State) : (setHeaterState v s).rsp = s.rsp := rfl
@[simp] theorem setHeaterState_inputs (v : HeaterState) (s : State) : (setHeaterState v s).inputs = s.inputs := rfl
@[simp] theorem setHeaterState_sampleQueue (v : HeaterState) (s : State) : (setHeaterState v s).sampleQueue = s.sampleQueue := rfl
@[simp] theorem setHeaterState_freeDraws (v : HeaterState) (s : State) : (setHeaterState v s).freeDraws = s.freeDraws := rfl

/-! ## mirrorTemperature -/

@[simp] theorem mirrorTemperature_cfg (s : State) : (mirrorTemperature s).cfg = s.cfg := rfl
@[simp] theorem mirrorTemperature_dev (s : State) : (mirrorTemperature s).dev = s.dev := rfl
@[simp] theorem mirrorTemperature_pwm (s : State) : (mirrorTemperature s).pwm = s.pwm := rfl
@[simp] theorem mirrorTemperature_heater (s : State) : (mirrorTemperature s).heater = { s.heater with temperature := s.sensor.temperature } := rfl
@[simp] theorem mirrorTemperature_sensor (s : State) : (mirrorTemperature s).sensor = s.sensor := rfl
@[simp] theorem mirrorTemperature_pid (s : State) : (mirrorTemperature s).pid = s.pid := rfl
@[simp] theorem mirrorTemperature_trace (s : State) : (mirrorTemperature s).trace = s.trace := rfl
@[simp] theorem mirrorTemperature_rsp (s : State) : (mirrorTemperature s).rsp = s.rsp := rfl
@[simp] theorem mirrorTemperature_inputs (s : State) : (mirrorTemperature s).inputs = s.inputs := rfl
@[simp] theorem mirrorTemperature_sampleQueue (s : State) : (mirrorTemperature s).sampleQueue = s.sampleQueue := rfl
@[simp] theorem mirrorTemperature_freeDraws (s : State) : (mirrorTemperature s).freeDraws = s.freeDraws := rfl

end Sys2Proof.Machine
end

