-- ==== Sys2Proof/Laws/Arith.lean ====
section
/-! SUPPORT. What the arithmetic of 00_scope.md R13 can answer: ranges, and the round trips between integers and patterns. -/

namespace Sys2Proof.Machine

theorem sat32_eq_max_min (v : Int) : sat32 v = max (-2147483648) (min 2147483647 v) := by
  unfold sat32; split <;> [skip; split] <;> omega

theorem sat32_range (v : Int) : -2147483648 ≤ sat32 v ∧ sat32 v ≤ 2147483647 := by
  rw [sat32_eq_max_min]; omega

theorem s32_range (w : BitVec 32) : -2147483648 ≤ s32 w ∧ s32 w ≤ 2147483647 := by
  have h1 := BitVec.le_two_mul_toInt (x := w)
  have h2 := BitVec.two_mul_toInt_lt (x := w)
  unfold s32; omega

/-- A value in the S32 range is read back as it was stored. -/
theorem s32_u32 {v : Int} (h1 : -2147483648 ≤ v) (h2 : v ≤ 2147483647) : s32 (u32 v) = v := by
  unfold s32 u32
  rw [BitVec.toInt_ofInt, Int.bmod_def]
  simp only [Nat.reducePow, Nat.cast_ofNat]
  split <;> omega

@[simp] theorem s32_u32_sat32 (v : Int) : s32 (u32 (sat32 v)) = sat32 v :=
  s32_u32 (sat32_range v).1 (sat32_range v).2

@[simp] theorem u32_s32 (w : BitVec 32) : u32 (s32 w) = w := BitVec.ofInt_toInt

@[simp] theorem s32_u32_s32 (w : BitVec 32) : s32 (u32 (s32 w)) = s32 w := by rw [u32_s32]

/-- A value in the U32 range is read back as it was stored. -/
theorem u32_toNat {v : Int} (h1 : 0 ≤ v) (h2 : v ≤ 4294967295) : (u32 v).toNat = v.toNat := by
  unfold u32
  rw [BitVec.toNat_ofInt]
  simp only [Nat.reducePow]
  omega

/-- A value in the S40 range is read back as it was stored. -/
theorem s40_toInt {v : Int} (h1 : -549755813888 ≤ v) (h2 : v ≤ 549755813887) : (BitVec.ofInt 40 v).toInt = v := by
  rw [BitVec.toInt_ofInt, Int.bmod_def]
  simp only [Nat.reducePow, Nat.cast_ofNat]
  split <;> omega

theorem tdiv_of_ne_zero (a : Int) {b : Int} (h : b ≠ 0) : tdiv a b = Int.tdiv a b := if_neg h

theorem fdiv_of_ne_zero (a : Nat) {b : Nat} (h : b ≠ 0) : fdiv a b = a / b := if_neg h

theorem absInt_eq_natAbs (v : Int) : absInt v = (v.natAbs : Int) := by
  unfold absInt; split <;> omega

/-- Where the bounds are in order the clamp lies between them. -/
theorem clamp_range {lo hi : Int} (v : Int) (h : lo ≤ hi) : lo ≤ clamp v lo hi ∧ clamp v lo hi ≤ hi := by
  unfold clamp; split <;> [skip; split] <;> omega

theorem clamp_eq_max_min {lo hi : Int} (v : Int) (h : lo ≤ hi) : clamp v lo hi = max lo (min hi v) := by
  unfold clamp; split <;> [skip; split] <;> omega

/-- The clamp of S32 bounds is an S32 value or the value it was given. -/
theorem clamp_s32_range (v : Int) (lo hi : BitVec 32) :
    -2147483648 ≤ clamp v (s32 lo) (s32 hi) ∧ clamp v (s32 lo) (s32 hi) ≤ 2147483647 := by
  have := s32_range lo; have := s32_range hi
  unfold clamp; split <;> [skip; split] <;> omega

/-- `dec` on a counter that is not 0. -/
theorem dec_toNat (c : U8) (h : 1 ≤ c.toNat) : (dec c).toNat = c.toNat - 1 := by
  unfold dec
  split
  · next h0 => subst h0; simp at h
  · have := c.isLt
    rw [BitVec.toNat_sub]
    simp; omega

theorem dec_eq_zero_iff (c : U8) : dec c = 0 ↔ c.toNat ≤ 1 := by
  constructor
  · intro h
    by_contra hc
    have := dec_toNat c (by omega)
    rw [h] at this; simp at this; omega
  · intro h
    have hc : c = 0 ∨ c = 1 := by
      rcases Nat.lt_or_ge c.toNat 1 with h1 | h1
      · left; apply BitVec.eq_of_toNat_eq; simp; omega
      · right; apply BitVec.eq_of_toNat_eq; simp; omega
    rcases hc with rfl | rfl <;> rfl

@[simp] theorem pwmModeFor_zero : pwmModeFor 0 = .off := rfl

@[simp] theorem pwmCompareFor_zero (top : U32) : pwmCompareFor top 0 = 0 := rfl

end Sys2Proof.Machine
end

