-- ==== Sys2Proof/Machine/Assembler.lean ====
section
/-! DEFINITION. The assembler syntax of 30_encoding.md R99 and the pseudo-instructions and directives of R100, as a total function from
text to the elements of a run (00_scope.md R17) and the sample source's answers. It stands beside the block: no step calls it. -/

namespace Sys2Proof.Machine

/-! ## Pseudo-instructions (R100) -/

/-- A REGWR as an assembler writes it: the byte in `B[7:0]` (R92), and zero in `B[31:8]` (R94). -/
def regwrByte (addr : U32) (b : U8) : Instr := .regwr addr (b.zeroExtend 32)

/-- `REGWR addr, byte` (R93). The spec does not say what a byte operand that does not fit 8 bits stands for; DESIGN CHOICE (assumption
log 24): its low byte, the one byte the operation reads (R92). -/
def regwrWrites (addr b : U32) : List Instr := [regwrByte addr (dataByte b)]

/-- `REGWR32 addr, v`: four REGWR, lowest byte first. R100 does not say what addr+1, addr+2, addr+3 are past 32 bits; DESIGN CHOICE
(assumption log 23): they are taken modulo 2^32, so for an addr of 0xFFFFFFFD to 0xFFFFFFFF the later bytes go to 0x00 on. -/
def regwr32 (addr v : U32) : List Instr :=
  [regwrByte addr (byteOf v 0), regwrByte (addr + 1) (byteOf v 1), regwrByte (addr + 2) (byteOf v 2), regwrByte (addr + 3) (byteOf v 3)]

/-- `SETPOINT v` is `REGWR32 0x02, v`. -/
def setpointWrites (v : S32) : List Instr := regwr32 0x02 v

/-- `DISPATCH`: an iteration of the dispatch loop with no host request pending (40_scheduler.md R117). -/
def dispatch : List Instr := [.poll]

/-- `DISPATCH.R addr`: the communication handler first, the tick handler second (R117). -/
def dispatchRead (addr : U32) : List Instr := [.regrd addr, .poll]

/-- `DISPATCH.W addr, byte`: `REGWR addr, byte`, then `POLL`; the communication handler first, the tick handler second (R117). -/
def dispatchWrite (addr b : U32) : List Instr := regwrWrites addr b ++ [.poll]

/-- What a text stands for: elements of a run, and answers of the raw sample source in order (R17, R131). -/
structure Script where
  /-- The elements of the run. -/
  inputs : List Input
  /-- The answers `SAMPLES` lists. -/
  samples : List S32
deriving DecidableEq, Repr

/-- Two texts one after the other. -/
def Script.append (a b : Script) : Script := ⟨a.inputs ++ b.inputs, a.samples ++ b.samples⟩

/-- Operations as elements of a run. -/
def ofInstrs (l : List Instr) : Script := ⟨l.map (fun i => .command (encode i)), []⟩

/-- A run set before a state: its elements after those already there, its samples at the end of the queue. -/
def load (p : Script) (s : State) : State :=
  { s with inputs := s.inputs ++ p.inputs, sampleQueue := s.sampleQueue ++ p.samples }

/-! ## Names (R59, R93) -/

/-- The name column of R59's table; the two halves of the accumulator by their names of R45. -/
def fieldName (f : Field) : String :=
  match f with
  | .devTickFlag => "dev.tick_flag"
  | .devCnt100ms => "dev.cnt_100ms"
  | .devCnt1s => "dev.cnt_1s"
  | .devPwmFreq => "dev.pwm_freq"
  | .pwmTop => "pwm.top"
  | .pwmCompare => "pwm.compare"
  | .pwmMode => "pwm.mode"
  | .htrState => "heater.state"
  | .htrCode => "heater.code"
  | .htrTemperature => "heater.temperature"
  | .htrSetpoint => "heater.setpoint"
  | .htrRegulationTimer => "heater.regulation_timer"
  | .htrAmbientTimeout => "heater.ambient_timeout"
  | .htrRegulationTimeout => "heater.regulation_timeout"
  | .htrAmbientTemperature => "heater.ambient_temperature"
  | .htrOverheatTemperature => "heater.overheat_temperature"
  | .snsState => "sensor.state"
  | .snsCode => "sensor.code"
  | .snsSpr => "sensor.spr"
  | .snsSamples => "sensor.samples"
  | .snsRetries => "sensor.retries"
  | .snsTemperature => "sensor.temperature"
  | .snsPrevious => "sensor.previous"
  | .snsAccLo => "SNS_ACC_LO"
  | .snsAccHi => "SNS_ACC_HI"
  | .snsVariance => "sensor.variance"
  | .snsDisconnect => "sensor.disconnect_temperature"
  | .snsNopower => "sensor.nopower_temperature"
  | .pidError => "pid.error"
  | .pidPrevError => "pid.prev_error"
  | .pidIntegral => "pid.integral"
  | .pidDerivative => "pid.derivative"
  | .pidOutput => "pid.output"
  | .pidKp => "pid.kp"
  | .pidKi => "pid.ki"
  | .pidKd => "pid.kd"
  | .pidOutMin => "pid.out_min"
  | .pidOutMax => "pid.out_max"

/-- Whether the format column of R59 is T, P or G, for which a scaled literal may be written (R99). -/
def fieldScaled (f : Field) : Bool :=
  match f with
  | .devTickFlag => false
  | .devCnt100ms => false
  | .devCnt1s => false
  | .devPwmFreq => false
  | .pwmTop => false
  | .pwmCompare => false
  | .pwmMode => false
  | .htrState => false
  | .htrCode => false
  | .htrTemperature => true
  | .htrSetpoint => true
  | .htrRegulationTimer => false
  | .htrAmbientTimeout => false
  | .htrRegulationTimeout => false
  | .htrAmbientTemperature => true
  | .htrOverheatTemperature => true
  | .snsState => false
  | .snsCode => false
  | .snsSpr => false
  | .snsSamples => false
  | .snsRetries => false
  | .snsTemperature => true
  | .snsPrevious => true
  | .snsAccLo => true
  | .snsAccHi => true
  | .snsVariance => true
  | .snsDisconnect => true
  | .snsNopower => true
  | .pidError => true
  | .pidPrevError => true
  | .pidIntegral => false
  | .pidDerivative => false
  | .pidOutput => true
  | .pidKp => true
  | .pidKi => true
  | .pidKd => true
  | .pidOutMin => true
  | .pidOutMax => true

/-! ## Text (R99) -/

/-- A blank between words. -/
def isBlank (c : Char) : Bool := c == ' ' || c == '\t'

/-- A text without the blanks at its ends. -/
def trim (l : List Char) : List Char := ((l.dropWhile isBlank).reverse.dropWhile isBlank).reverse

/-- A text cut at every `sep`. -/
def splitAtChar (sep : Char) : List Char → List (List Char)
  | [] => [[]]
  | c :: rest =>
    match splitAtChar sep rest with
    | [] => [[c]]
    | w :: ws => if c == sep then [] :: w :: ws else (c :: w) :: ws

/-- The value of a hexadecimal digit. -/
def hexDigit (c : Char) : Option Nat :=
  if c.isDigit then some (c.toNat - 48)
  else if 'a' ≤ c ∧ c ≤ 'f' then some (c.toNat - 87)
  else if 'A' ≤ c ∧ c ≤ 'F' then some (c.toNat - 55)
  else none

/-- The value of a decimal digit. -/
def decDigit (c : Char) : Option Nat := if c.isDigit then some (c.toNat - 48) else none

/-- Digits of a base, most significant first, after the value `acc`. -/
def digitsFrom (base : Nat) (digit : Char → Option Nat) : Nat → List Char → Option Nat
  | acc, [] => some acc
  | acc, c :: rest =>
    match digit c with
    | some d => digitsFrom base digit (acc * base + d) rest
    | none => none

/-- One or more digits of a base. -/
def digits (base : Nat) (digit : Char → Option Nat) : List Char → Option Nat
  | [] => none
  | c :: rest => digitsFrom base digit 0 (c :: rest)

/-- A numeric operand of R99: its integer, and whether it was written with a decimal point. -/
structure Literal where
  /-- The integer it stands for. -/
  value : Int
  /-- Whether it is a scaled literal. -/
  scaled : Bool
deriving DecidableEq, Repr

/-- A decimal integer, or a scaled literal: a decimal point and exactly two decimals, the integer with the point removed. -/
def unsignedLiteral (l : List Char) : Option Literal :=
  match splitAtChar '.' l with
  | [whole] => (digits 10 decDigit whole).map (fun n => ⟨n, false⟩)
  | [whole, [a, b]] =>
    match digits 10 decDigit whole, digits 10 decDigit [a, b] with
    | some n, some m => some ⟨(n * 100 + m : Nat), true⟩
    | _, _ => none
  | _ => none

/-- A numeric operand of R99: decimal with an optional leading `-`, hexadecimal `0x..`, or scaled. -/
def literal (l : List Char) : Option Literal :=
  match l with
  | '0' :: 'x' :: h => (digits 16 hexDigit h).map (fun n => ⟨n, false⟩)
  | '-' :: rest => (unsignedLiteral rest).map (fun x => ⟨-x.value, x.scaled⟩)
  | _ => unsignedLiteral l

/-- An operand field: a literal that 32 bits hold, signed or unsigned; a scaled literal only where one may stand. -/
def operand (scaledOk : Bool) (l : List Char) : Option U32 :=
  match literal l with
  | some x =>
    if (x.scaled && !scaledOk) || decide (x.value < -2147483648) || decide (x.value > 4294967295) then none
    else some (u32 x.value)
  | none => none

/-- A field id: a number, or a name of R59 (R99). -/
def fieldIdOperand (l : List Char) : Option U32 :=
  match fieldTable.find? (fun r => (fieldName r.field).toList == l) with
  | some r => some (BitVec.ofNat 32 r.id)
  | none => operand false l

/-- Whether the value operand of CFGWR may be a scaled literal: the field is of T-, P- or G-format. -/
def cfgwrScaled (id : U32) : Bool :=
  match fieldRow id with
  | some r => fieldScaled r.field
  | none => false

/-- The values of a `SAMPLES` line. -/
def sampleValues : List (List Char) → Option (List S32)
  | [] => some []
  | l :: rest =>
    match operand true l, sampleValues rest with
    | some v, some vs => some (v :: vs)
    | _, _ => none

/-- An operation with no operand. -/
def noOperand (i : Instr) : List (List Char) → Option Script
  | [] => some (ofInstrs [i])
  | _ :: _ => none

/-- One operand. -/
def oneOperand (scaledOk : Bool) (f : U32 → List Instr) : List (List Char) → Option Script
  | [a] => (operand scaledOk a).map (fun x => ofInstrs (f x))
  | _ => none

/-- Two operands, A first. -/
def twoOperands (scaledA scaledB : Bool) (f : U32 → U32 → List Instr) : List (List Char) → Option Script
  | [a, b] =>
    match operand scaledA a, operand scaledB b with
    | some x, some y => some (ofInstrs (f x y))
    | _, _ => none
  | _ => none

/-- FLDRD: a field id. -/
def fldrdLine : List (List Char) → Option Script
  | [a] => (fieldIdOperand a).map (fun x => ofInstrs [.fldrd x])
  | _ => none

/-- CFGWR: a field id and a value in the field's format. -/
def cfgwrLine : List (List Char) → Option Script
  | [a, b] =>
    match fieldIdOperand a with
    | some x => (operand (cfgwrScaled x) b).map (fun y => ofInstrs [.cfgwr x y])
    | none => none
  | _ => none

/-- `TICK`: one TICK event at that point of the run (R100). -/
def tickLine : List (List Char) → Option Script
  | [] => some ⟨[.tick], []⟩
  | _ :: _ => none

/-- `SAMPLES v1, v2, ...` (R100). -/
def samplesLine (ops : List (List Char)) : Option Script := (sampleValues ops).map (fun vs => ⟨[], vs⟩)

/-- The mnemonics of R93 and the pseudo-instructions and directives of R100, with the operands they take. R100 gives the v of REGWR32
no format; DESIGN CHOICE (assumption log 23): a scaled literal is accepted for it at every addr. -/
def assemblerTable : List (String × (List (List Char) → Option Script)) :=
  [("DEVINIT", noOperand .devinit),
   ("TICKQ", noOperand .tickq),
   ("POLL", noOperand .poll),
   ("SNS_INIT", noOperand .snsInit),
   ("SNS_START", noOperand .snsStart),
   ("SNS_CB", noOperand .snsCb),
   ("PID_INIT", noOperand .pidInit),
   ("PID_COMPUTE", twoOperands true true (fun a b => [.pidCompute a b])),
   ("HTR_INIT", noOperand .htrInit),
   ("HTR_ON", noOperand .htrOn),
   ("HTR_OFF", noOperand .htrOff),
   ("HTR_CB", noOperand .htrCb),
   ("PWM_FREQ", oneOperand false (fun a => [.pwmFreq a])),
   ("PWM_DUTY", oneOperand true (fun a => [.pwmDuty a])),
   ("REGRD", oneOperand false (fun a => [.regrd a])),
   ("REGWR", twoOperands false false regwrWrites),
   ("FLDRD", fldrdLine),
   ("CFGWR", cfgwrLine),
   ("TICK", tickLine),
   ("SAMPLES", samplesLine),
   ("REGWR32", twoOperands false true regwr32),
   ("SETPOINT", oneOperand true setpointWrites),
   ("DISPATCH", noOperand .poll),
   ("DISPATCH.R", oneOperand false dispatchRead),
   ("DISPATCH.W", twoOperands false false dispatchWrite)]

/-- The operands of a line: separated by commas; none where nothing follows the mnemonic. -/
def lineOperands (l : List Char) : List (List Char) :=
  match trim l with
  | [] => []
  | rest => (splitAtChar ',' rest).map trim

/-- One line: a comment starts at `;` and an empty line stands for nothing (R99). -/
def assembleLine (l : List Char) : Option Script :=
  match trim (l.takeWhile (fun c => c != ';')) with
  | [] => some ⟨[], []⟩
  | body =>
    match assemblerTable.find? (fun r => r.1.toList == body.takeWhile (fun c => !isBlank c)) with
    | some r => r.2 (lineOperands (body.dropWhile (fun c => !isBlank c)))
    | none => none

/-- Lines one after the other. -/
def assembleLines : List (List Char) → Option Script
  | [] => some ⟨[], []⟩
  | l :: rest =>
    match assembleLine l, assembleLines rest with
    | some a, some b => some (a.append b)
    | _, _ => none

/-- A text, one command per line (R99); none where a line is none of the syntax. -/
def assemble (text : String) : Option Script := assembleLines (splitAtChar '\n' text.toList)

end Sys2Proof.Machine
end

