-- ==== Sys2Proof/Laws/Assembler.lean ====
section
/-! SUPPORT. What the assembler can write (30_encoding.md R94, R99, R100): TICK events, and command words of operations whose ignored
operand bits are zero. -/

namespace Sys2Proof.Machine

/-- Every operation of a list is as an assembler writes it (R94). -/
def AllWellFormed (l : List Instr) : Prop := ∀ i ∈ l, i.wellFormed = true

/-- Every element of a script is a TICK event or the command word of an operation as an assembler writes it (R94). -/
def Script.Clean (p : Script) : Prop := ∀ x ∈ p.inputs, x = .tick ∨ ∃ i : Instr, i.wellFormed = true ∧ x = .command (encode i)

theorem regwrByte_wellFormed (addr : U32) (b : U8) : (regwrByte addr b).wellFormed = true := by
  simp only [regwrByte, Instr.wellFormed, decide_eq_true_eq]
  bv_omega

theorem regwrWrites_wellFormed (addr b : U32) : AllWellFormed (regwrWrites addr b) := by
  simp [AllWellFormed, regwrWrites, regwrByte_wellFormed]

theorem dispatchWrite_wellFormed (addr b : U32) : AllWellFormed (dispatchWrite addr b) := by
  intro i hi
  rcases List.mem_append.mp hi with hi | hi
  · exact regwrWrites_wellFormed addr b i hi
  · rw [List.mem_singleton.mp hi]; rfl

theorem regwr32_wellFormed (addr v : U32) : AllWellFormed (regwr32 addr v) := by
  simp [AllWellFormed, regwr32, regwrByte_wellFormed]

theorem ofInstrs_clean {l : List Instr} (h : AllWellFormed l) : (ofInstrs l).Clean := by
  intro x hx
  obtain ⟨i, hi, rfl⟩ := List.mem_map.mp hx
  exact .inr ⟨i, h i hi, rfl⟩

theorem append_clean {p q : Script} (hp : p.Clean) (hq : q.Clean) : (p.append q).Clean :=
  fun x hx => (List.mem_append.mp hx).elim (hp x) (hq x)

/-- Whatever operands a row of the assembler's table accepts, the script it writes is clean. -/
def RowClean (f : List (List Char) → Option Script) : Prop := ∀ ops p, f ops = some p → p.Clean

theorem noOperand_clean {i : Instr} (h : i.wellFormed = true) : RowClean (noOperand i)
  | [], _, hp => by cases hp; exact ofInstrs_clean (by simpa [AllWellFormed] using h)
  | _ :: _, _, hp => nomatch hp

theorem oneOperand_clean (b : Bool) {f : U32 → List Instr} (h : ∀ x, AllWellFormed (f x)) : RowClean (oneOperand b f) := by
  intro ops p hp
  unfold oneOperand at hp
  split at hp
  · obtain ⟨x, -, rfl⟩ := Option.map_eq_some_iff.mp hp
    exact ofInstrs_clean (h x)
  · cases hp

theorem twoOperands_clean (a b : Bool) {f : U32 → U32 → List Instr} (h : ∀ x y, AllWellFormed (f x y)) :
    RowClean (twoOperands a b f) := by
  intro ops p hp
  unfold twoOperands at hp
  split at hp
  · split at hp
    · cases hp; exact ofInstrs_clean (h _ _)
    · cases hp
  · cases hp

theorem fldrdLine_clean : RowClean fldrdLine := by
  intro ops p hp
  unfold fldrdLine at hp
  split at hp
  · obtain ⟨x, -, rfl⟩ := Option.map_eq_some_iff.mp hp
    exact ofInstrs_clean (by simp [AllWellFormed, Instr.wellFormed])
  · cases hp

theorem cfgwrLine_clean : RowClean cfgwrLine := by
  intro ops p hp
  unfold cfgwrLine at hp
  split at hp
  · split at hp
    · obtain ⟨y, -, rfl⟩ := Option.map_eq_some_iff.mp hp
      exact ofInstrs_clean (by simp [AllWellFormed, Instr.wellFormed])
    · cases hp
  · cases hp

theorem tickLine_clean : RowClean tickLine
  | [], _, hp => by cases hp; simp [Script.Clean]
  | _ :: _, _, hp => nomatch hp

theorem samplesLine_clean : RowClean samplesLine := by
  intro ops p hp
  obtain ⟨vs, -, rfl⟩ := Option.map_eq_some_iff.mp hp
  simp [Script.Clean]

/-- Every row of the assembler's table writes clean scripts. -/
theorem assemblerTable_clean : ∀ r ∈ assemblerTable, RowClean r.2 := by
  unfold assemblerTable
  simp only [List.forall_mem_cons, List.not_mem_nil, false_imp_iff, implies_true, and_true]
  exact ⟨noOperand_clean rfl, noOperand_clean rfl, noOperand_clean rfl, noOperand_clean rfl, noOperand_clean rfl,
    noOperand_clean rfl, noOperand_clean rfl,
    twoOperands_clean _ _ (by simp [AllWellFormed, Instr.wellFormed]),
    noOperand_clean rfl, noOperand_clean rfl, noOperand_clean rfl, noOperand_clean rfl,
    oneOperand_clean _ (by simp [AllWellFormed, Instr.wellFormed]),
    oneOperand_clean _ (by simp [AllWellFormed, Instr.wellFormed]),
    oneOperand_clean _ (by simp [AllWellFormed, Instr.wellFormed]),
    twoOperands_clean _ _ regwrWrites_wellFormed, fldrdLine_clean, cfgwrLine_clean, tickLine_clean, samplesLine_clean,
    twoOperands_clean _ _ regwr32_wellFormed, oneOperand_clean _ (regwr32_wellFormed 0x02), noOperand_clean rfl,
    oneOperand_clean _ (by simp [AllWellFormed, dispatchRead, Instr.wellFormed]),
    twoOperands_clean _ _ dispatchWrite_wellFormed⟩

theorem assembleLine_clean {l : List Char} {p : Script} (hp : assembleLine l = some p) : p.Clean := by
  unfold assembleLine at hp
  split at hp
  · cases hp; simp [Script.Clean]
  · split at hp
    · exact assemblerTable_clean _ (List.mem_of_find?_eq_some ‹_›) _ _ hp
    · cases hp

theorem assembleLines_clean : ∀ {ls : List (List Char)} {p : Script}, assembleLines ls = some p → p.Clean
  | [], p, hp => by cases hp; simp [Script.Clean]
  | l :: rest, p, hp => by
    unfold assembleLines at hp
    split at hp
    · cases hp
      exact append_clean (assembleLine_clean ‹_›) (assembleLines_clean ‹_›)
    · cases hp

/-- R94: a text stands for TICK events and for command words whose ignored operand bits are zero, and for nothing else. -/
theorem assemble_clean {text : String} {p : Script} (hp : assemble text = some p) : p.Clean := assembleLines_clean hp

end Sys2Proof.Machine
end

