-- ==== Sys2Proof/Laws/Register.lean ====
section
/-! SUPPORT. What the register file and the field-id space can answer (20_memory.md R70 to R77, 45_register_interface.md R205 to R208). -/

namespace Sys2Proof.Machine

/-- No two rows of R59's table share an id. -/
theorem fieldTable_ids_distinct : (fieldTable.map FieldRow.id).Nodup := by decide

/-- The address map covers the 24 bytes and nothing else (R70, R77). -/
theorem regRow_isSome_iff (a : Nat) : (regRow a).isSome = true ↔ a < 24 := by
  constructor
  · intro h
    by_contra hc
    have : regRow a = none := by
      unfold regRow regMap
      simp only [List.find?_eq_none]
      intro r hr
      simp only [List.mem_cons, List.not_mem_nil, or_false] at hr
      rcases hr with rfl | rfl | rfl | rfl | rfl | rfl | rfl | rfl | rfl <;> simp <;> omega
    rw [this] at h; cases h
  · intro h
    interval_cases a <;> rfl

theorem memRead_eq_none_iff (a : Nat) (s : State) : memRead a s = none ↔ 24 ≤ a := by
  have h := regRow_isSome_iff a
  unfold memRead
  cases hr : regRow a with
  | none => simp [hr] at h ⊢; omega
  | some r => simp [hr] at h ⊢; omega

theorem memWrite_eq_none_iff (a : Nat) (b : U8) (s : State) : memWrite a b s = none ↔ 24 ≤ a := by
  have h := regRow_isSome_iff a
  unfold memWrite
  cases hr : regRow a with
  | none => simp [hr] at h ⊢; omega
  | some r => simp [hr] at h ⊢; omega

/-- The row of an address is one of the map, and the address lies in it. -/
theorem regRow_mem {a : Nat} {r : RegRow} (h : regRow a = some r) :
    r ∈ regMap ∧ r.offset ≤ a ∧ a < r.offset + r.bytes := by
  unfold regRow at h
  refine ⟨List.mem_of_find?_eq_some h, ?_⟩
  have := List.find?_some h
  simpa using this

/-- A byte put into a word is read back there (R73, R72). -/
theorem byteOf_withByte_same (w : U32) (k : Nat) (b : U8) (h : k < 4) : byteOf (withByte w k b) k = b := by
  unfold byteOf withByte
  apply BitVec.eq_of_getLsbD_eq
  intro i hi
  interval_cases k <;> interval_cases i <;> simp

/-- A byte put into a word leaves the three others (R73, R201). -/
theorem byteOf_withByte_other (w : U32) (k j : Nat) (b : U8) (h : k < 4) (hj : j < 4) (hne : j ≠ k) :
    byteOf (withByte w k b) j = byteOf w j := by
  unfold byteOf withByte
  apply BitVec.eq_of_getLsbD_eq
  intro i hi
  interval_cases k <;> interval_cases j <;> first | exact absurd rfl hne | (interval_cases i <;> simp)

/-- A write to the register file touches at most the set-point and the three gains (R73, R203). -/
theorem memWrite_cases {a : Nat} {b : U8} {s t : State} (h : memWrite a b s = some t) :
    t = s ∨ (∃ v, t = { s with heater := { s.heater with setpoint := v } }) ∨ (∃ v, t = { s with pid := { s.pid with kp := v } }) ∨
      (∃ v, t = { s with pid := { s.pid with ki := v } }) ∨ (∃ v, t = { s with pid := { s.pid with kd := v } }) := by
  unfold memWrite at h
  cases hr : regRow a with
  | none => simp [hr] at h
  | some r =>
    rw [hr] at h
    simp only [Option.map_some, Option.some.injEq] at h
    subst h
    have hm := (regRow_mem hr).1
    unfold regMap at hm
    simp only [List.mem_cons, List.not_mem_nil, or_false] at hm
    rcases hm with rfl | rfl | rfl | rfl | rfl | rfl | rfl | rfl | rfl
    · exact .inl rfl
    · exact .inl rfl
    · exact .inr (.inl ⟨_, rfl⟩)
    · exact .inl rfl
    · exact .inl rfl
    · exact .inl rfl
    · exact .inr (.inr (.inl ⟨_, rfl⟩))
    · exact .inr (.inr (.inr (.inl ⟨_, rfl⟩)))
    · exact .inr (.inr (.inr (.inr ⟨_, rfl⟩)))

/-- The row of a field id is one of the table with that id (R59). -/
theorem fieldRow_mem {id : U32} {r : FieldRow} (h : fieldRow id = some r) : r ∈ fieldTable ∧ r.id = id.toNat := by
  unfold fieldRow at h
  refine ⟨List.mem_of_find?_eq_some h, ?_⟩
  have := List.find?_some h
  simpa using this

/-- What an accepted CFGWR can do: one of the 15 cfg fields takes the value, and `sensor.spr` zeroes `sensor.samples` (R206, R207). -/
theorem configure_cases (f : Field) (v : U32) (s : State) :
    configure f v s = s ∨
      (∃ h, configure f v s = { s with heater := h } ∧ h.state = s.heater.state ∧ h.code = s.heater.code ∧
        h.temperature = s.heater.temperature ∧ h.regulationTimer = s.heater.regulationTimer) ∨
      (∃ p, configure f v s = { s with pid := p } ∧ p.error = s.pid.error ∧ p.prevError = s.pid.prevError ∧
        p.integral = s.pid.integral ∧ p.derivative = s.pid.derivative ∧ p.output = s.pid.output) ∨
      (∃ x, configure f v s = { s with sensor := x } ∧ x.state = s.sensor.state ∧ x.code = s.sensor.code ∧
        x.temperature = s.sensor.temperature ∧ x.previous = s.sensor.previous ∧ x.accumulator = s.sensor.accumulator ∧
        (x.samples = 0 ∨ (x.samples = s.sensor.samples ∧ x.spr = s.sensor.spr))) := by
  cases f
  case htrSetpoint => exact .inr (.inl ⟨_, rfl, rfl, rfl, rfl, rfl⟩)
  case htrAmbientTimeout => exact .inr (.inl ⟨_, rfl, rfl, rfl, rfl, rfl⟩)
  case htrRegulationTimeout => exact .inr (.inl ⟨_, rfl, rfl, rfl, rfl, rfl⟩)
  case htrAmbientTemperature => exact .inr (.inl ⟨_, rfl, rfl, rfl, rfl, rfl⟩)
  case htrOverheatTemperature => exact .inr (.inl ⟨_, rfl, rfl, rfl, rfl, rfl⟩)
  case snsSpr => exact .inr (.inr (.inr ⟨_, rfl, rfl, rfl, rfl, rfl, rfl, .inl rfl⟩))
  case snsRetries => exact .inr (.inr (.inr ⟨_, rfl, rfl, rfl, rfl, rfl, rfl, .inr ⟨rfl, rfl⟩⟩))
  case snsVariance => exact .inr (.inr (.inr ⟨_, rfl, rfl, rfl, rfl, rfl, rfl, .inr ⟨rfl, rfl⟩⟩))
  case snsDisconnect => exact .inr (.inr (.inr ⟨_, rfl, rfl, rfl, rfl, rfl, rfl, .inr ⟨rfl, rfl⟩⟩))
  case snsNopower => exact .inr (.inr (.inr ⟨_, rfl, rfl, rfl, rfl, rfl, rfl, .inr ⟨rfl, rfl⟩⟩))
  case pidKp => exact .inr (.inr (.inl ⟨_, rfl, rfl, rfl, rfl, rfl, rfl⟩))
  case pidKi => exact .inr (.inr (.inl ⟨_, rfl, rfl, rfl, rfl, rfl, rfl⟩))
  case pidKd => exact .inr (.inr (.inl ⟨_, rfl, rfl, rfl, rfl, rfl, rfl⟩))
  case pidOutMin => exact .inr (.inr (.inl ⟨_, rfl, rfl, rfl, rfl, rfl, rfl⟩))
  case pidOutMax => exact .inr (.inr (.inl ⟨_, rfl, rfl, rfl, rfl, rfl, rfl⟩))
  all_goals exact .inl rfl

end Sys2Proof.Machine
end

