-- ==== Sys2Proof/Laws/Pid.lean ====
section
/-! SUPPORT. What a PID step can do (42_pid.md), each field by its rule. -/

namespace Sys2Proof.Machine

theorem pidError_range (a b : S32) : -2147483648 ≤ pidError a b ∧ pidError a b ≤ 2147483647 := sat32_range _

theorem pidIntegral_range (c : Cfg) (p : Pid) (e : Int) :
    -2147483648 ≤ pidIntegral c p e ∧ pidIntegral c p e ≤ 2147483647 := by
  unfold pidIntegral; split
  · exact sat32_range _
  · exact s32_range _

/-- Inside the dead band the integral keeps its value (R153). -/
theorem pidIntegral_deadBand (c : Cfg) (p : Pid) (e : Int) (h : absInt e ≤ s32 c.pidEpsilon) :
    pidIntegral c p e = s32 p.integral := if_neg (by omega)

theorem pidDerivative_range (p : Pid) (e : Int) :
    -2147483648 ≤ pidDerivative p e ∧ pidDerivative p e ≤ 2147483647 := sat32_range _

theorem pidOutput_range (p : Pid) (acc : Int) :
    -2147483648 ≤ pidOutput p acc ∧ pidOutput p acc ≤ 2147483647 := clamp_s32_range _ _ _

/-- The output sum is rounded once, toward zero, by the constant 1000 (R155). -/
theorem pidOutput_eq (p : Pid) (acc : Int) :
    pidOutput p acc = clamp (Int.tdiv acc 1000) (s32 p.outMin) (s32 p.outMax) := by
  unfold pidOutput; rw [tdiv_of_ne_zero _ (by decide)]

@[simp] theorem pidStep_error (c : Cfg) (a b : S32) (p : Pid) : s32 (pidStep c a b p).error = pidError a b :=
  s32_u32 (pidError_range a b).1 (pidError_range a b).2

@[simp] theorem pidStep_prevError (c : Cfg) (a b : S32) (p : Pid) :
    (pidStep c a b p).prevError = (pidStep c a b p).error := rfl

@[simp] theorem pidStep_integral (c : Cfg) (a b : S32) (p : Pid) :
    s32 (pidStep c a b p).integral = pidIntegral c p (pidError a b) :=
  s32_u32 (pidIntegral_range _ _ _).1 (pidIntegral_range _ _ _).2

@[simp] theorem pidStep_derivative (c : Cfg) (a b : S32) (p : Pid) :
    s32 (pidStep c a b p).derivative = pidDerivative p (pidError a b) :=
  s32_u32 (pidDerivative_range _ _).1 (pidDerivative_range _ _).2

@[simp] theorem pidStep_output (c : Cfg) (a b : S32) (p : Pid) :
    s32 (pidStep c a b p).output =
      pidOutput p (pidAcc p (pidError a b) (pidIntegral c p (pidError a b)) (pidDerivative p (pidError a b))) :=
  s32_u32 (pidOutput_range _ _).1 (pidOutput_range _ _).2

@[simp] theorem pidStep_kp (c : Cfg) (a b : S32) (p : Pid) : (pidStep c a b p).kp = p.kp := rfl
@[simp] theorem pidStep_ki (c : Cfg) (a b : S32) (p : Pid) : (pidStep c a b p).ki = p.ki := rfl
@[simp] theorem pidStep_kd (c : Cfg) (a b : S32) (p : Pid) : (pidStep c a b p).kd = p.kd := rfl
@[simp] theorem pidStep_outMin (c : Cfg) (a b : S32) (p : Pid) : (pidStep c a b p).outMin = p.outMin := rfl
@[simp] theorem pidStep_outMax (c : Cfg) (a b : S32) (p : Pid) : (pidStep c a b p).outMax = p.outMax := rfl

end Sys2Proof.Machine
end

