-- ==== Sys2Proof/Laws/Pwm.lean ====
section
/-! SUPPORT. What the PWM limiter can do (44_pwm.md). -/

namespace Sys2Proof.Machine

/-- The well-formedness of `CFG` (00_scope.md R9), as the inequalities it stands for. -/
theorem wellFormed_iff (c : Cfg) :
    c.wellFormed = true ↔
      1 ≤ c.clkHz.toNat ∧ 1 ≤ c.pwmPrescale.toNat ∧ 1 ≤ c.pwmMinRes.toNat ∧
        c.pwmMinRes.toNat ≤ c.pwmMaxRes.toNat ∧ c.pwmMaxRes.toNat ≤ 65535 := by
  simp [Cfg.wellFormed, and_assoc]

/-- With a well-formed `CFG` no free value enters `top_raw` (R191). -/
theorem pwmTopRaw_eq {c : Cfg} (h : c.wellFormed = true) (hz : U32) :
    pwmTopRaw c hz = if hz = 0 then c.pwmMaxRes.toNat else c.clkHz.toNat / (c.pwmPrescale.toNat * hz.toNat) := by
  obtain ⟨-, hp, -⟩ := (wellFormed_iff c).1 h
  unfold pwmTopRaw
  split
  · rfl
  · next hz0 =>
    have : hz.toNat ≠ 0 := fun h0 => hz0 (BitVec.eq_of_toNat_eq (by simpa using h0))
    rw [fdiv_of_ne_zero _ (Nat.mul_ne_zero (by omega) this)]

/-- The top-value is `top_raw` within `[CFG_PWM_MIN_RES, CFG_PWM_MAX_RES]` (R191). -/
theorem pwmTopFor_toNat {c : Cfg} (h : c.wellFormed = true) (hz : U32) :
    (pwmTopFor c hz).toNat = max c.pwmMinRes.toNat (min c.pwmMaxRes.toNat (pwmTopRaw c hz)) := by
  obtain ⟨-, -, -, hle, hmax⟩ := (wellFormed_iff c).1 h
  unfold pwmTopFor
  rw [clamp_eq_max_min _ (by exact_mod_cast hle), u32_toNat] <;> omega

theorem pwmTopFor_range {c : Cfg} (h : c.wellFormed = true) (hz : U32) :
    c.pwmMinRes.toNat ≤ (pwmTopFor c hz).toNat ∧ (pwmTopFor c hz).toNat ≤ c.pwmMaxRes.toNat := by
  obtain ⟨-, -, -, hle, -⟩ := (wellFormed_iff c).1 h
  rw [pwmTopFor_toNat h]; omega

/-- The effective frequency is the one the clamped top-value gives (R191). -/
theorem pwmFreqFor_toNat {c : Cfg} (h : c.wellFormed = true) {top : U32} (ht : 1 ≤ top.toNat) :
    (pwmFreqFor c top).toNat = c.clkHz.toNat / (c.pwmPrescale.toNat * top.toNat) := by
  obtain ⟨-, hp, -⟩ := (wellFormed_iff c).1 h
  unfold pwmFreqFor
  rw [fdiv_of_ne_zero _ (Nat.mul_ne_zero (by omega) (by omega)), BitVec.toNat_ofNat]
  exact Nat.mod_eq_of_lt (lt_of_le_of_lt (Nat.div_le_self _ _) c.clkHz.isLt)

/-- In `PWM_RUN` the compare value is the floor of the fraction of the top-value (R192). -/
theorem pwmCompareFor_run {top : U32} {p : Int} (h1 : 0 < p) (h2 : p ≤ 10000) :
    (pwmCompareFor top p).toNat = top.toNat * p.toNat / 10000 := by
  have hm : pwmModeFor p = .run := by unfold pwmModeFor; rw [if_neg (by omega), if_neg (by omega)]
  obtain ⟨n, rfl⟩ := Int.eq_ofNat_of_zero_le h1.le
  have htop := top.isLt
  have hle : top.toNat * n / 10000 ≤ top.toNat :=
    Nat.div_le_of_le_mul (by nlinarith)
  simp only [pwmCompareFor, hm]
  rw [tdiv_of_ne_zero _ (by decide), Int.tdiv_eq_ediv_of_nonneg (by positivity)]
  rw [u32_toNat (by positivity) (by norm_cast; omega)]
  norm_cast

/-- After PWM_DUTY the compare value is at most the top-value (10_state.md R27). -/
theorem pwmCompareFor_le (top : U32) (p : Int) : (pwmCompareFor top p).toNat ≤ top.toNat := by
  by_cases h0 : p ≤ 0
  · simp [pwmCompareFor, pwmModeFor, h0]
  · by_cases h1 : p > 10000
    · simp [pwmCompareFor, pwmModeFor, h0, h1]
    · rw [pwmCompareFor_run (by omega) (by omega)]
      exact Nat.div_le_of_le_mul (by have : p.toNat ≤ 10000 := by omega
                                     nlinarith)

end Sys2Proof.Machine
end

