-- ==== Sys2Proof/Laws/Sensor.lean ====
section
/-! SUPPORT. What the sensor operations can do (41_sensor.md). -/

namespace Sys2Proof.Machine

/-- Two states that differ at most in what a draw from the sample source changes: the queue, the free draws and the trace, which only
grows. -/
structure DrawFrame (s t : State) : Prop where
  cfg : t.cfg = s.cfg
  dev : t.dev = s.dev
  pwm : t.pwm = s.pwm
  heater : t.heater = s.heater
  sensor : t.sensor = s.sensor
  pid : t.pid = s.pid
  rsp : t.rsp = s.rsp
  inputs : t.inputs = s.inputs
  trace : ∃ l : List S32, t.trace = s.trace ++ l.map (fun v => Event.sample s.cfg.snsChannel v)

theorem DrawFrame.refl (s : State) : DrawFrame s s := ⟨rfl, rfl, rfl, rfl, rfl, rfl, rfl, rfl, [], by simp⟩

theorem DrawFrame.trans {s t u : State} (h : DrawFrame s t) (k : DrawFrame t u) : DrawFrame s u := by
  obtain ⟨l, hl⟩ := h.trace
  obtain ⟨m, hm⟩ := k.trace
  refine ⟨k.cfg.trans h.cfg, k.dev.trans h.dev, k.pwm.trans h.pwm, k.heater.trans h.heater, k.sensor.trans h.sensor,
    k.pid.trans h.pid, k.rsp.trans h.rsp, k.inputs.trans h.inputs, l ++ m, ?_⟩
  rw [hm, hl, h.cfg]; simp

/-- A draw changes the queue or the free draws, and adds its one EV_SAMPLE (R131). -/
theorem drawSample_frame (s : State) : DrawFrame s (drawSample s).2 := by
  unfold drawSample
  cases s.sampleQueue with
  | nil => exact ⟨rfl, rfl, rfl, rfl, rfl, rfl, rfl, rfl, [_], rfl⟩
  | cons v rest => exact ⟨rfl, rfl, rfl, rfl, rfl, rfl, rfl, rfl, [v], rfl⟩

theorem resample_frame (k : Nat) (v : S32) (s : State) : DrawFrame s (resample k v s).2 := by
  induction k generalizing v s with
  | zero => unfold resample; split <;> exact DrawFrame.refl s
  | succ k ih =>
    unfold resample
    split
    · exact DrawFrame.refl s
    · exact (drawSample_frame s).trans (ih _ _)

/-- `Acquire` writes no state field (R132). -/
theorem acquire_frame (s : State) : DrawFrame s (acquire s).2 := by
  unfold acquire
  dsimp only
  split
  · exact drawSample_frame s
  · exact (drawSample_frame s).trans (resample_frame _ _ _)

/-- What SNS_CB can do, once and for all (R134): nothing, or draw samples and then shut the sensor down or take one. -/
theorem snsCb_cases (s : State) :
    (snsIdle s.sensor = true ∧ snsCb s = s) ∨
      (snsIdle s.sensor = false ∧ ∃ t, DrawFrame s t ∧
        (((acquire s).1 = none ∧ snsCb s = { t with sensor := snsShutdown s.sensor }) ∨
          ∃ v, (acquire s).1 = some v ∧ snsCb s = { t with sensor := takeSample s.cfg v s.sensor })) := by
  cases h : snsIdle s.sensor with
  | true => exact .inl ⟨rfl, by unfold snsCb; rw [if_pos h]⟩
  | false =>
    refine .inr ⟨rfl, (acquire s).2, acquire_frame s, ?_⟩
    have hf := acquire_frame s
    unfold snsCb
    rw [if_neg (by simp [h])]
    cases ha : acquire s with
    | mk r t =>
      rw [ha] at hf
      cases r with
      | none => exact .inl ⟨rfl, by dsimp only; rw [hf.sensor]⟩
      | some v => exact .inr ⟨v, rfl, by dsimp only; rw [hf.sensor, hf.cfg]⟩

@[simp] theorem snsCb_cfg (s : State) : (snsCb s).cfg = s.cfg := by
  rcases snsCb_cases s with ⟨-, h⟩ | ⟨-, t, f, ⟨-, h⟩ | ⟨v, -, h⟩⟩ <;> rw [h] <;> first | rfl | exact f.cfg
@[simp] theorem snsCb_dev (s : State) : (snsCb s).dev = s.dev := by
  rcases snsCb_cases s with ⟨-, h⟩ | ⟨-, t, f, ⟨-, h⟩ | ⟨v, -, h⟩⟩ <;> rw [h] <;> first | rfl | exact f.dev
@[simp] theorem snsCb_pwm (s : State) : (snsCb s).pwm = s.pwm := by
  rcases snsCb_cases s with ⟨-, h⟩ | ⟨-, t, f, ⟨-, h⟩ | ⟨v, -, h⟩⟩ <;> rw [h] <;> first | rfl | exact f.pwm
@[simp] theorem snsCb_heater (s : State) : (snsCb s).heater = s.heater := by
  rcases snsCb_cases s with ⟨-, h⟩ | ⟨-, t, f, ⟨-, h⟩ | ⟨v, -, h⟩⟩ <;> rw [h] <;> first | rfl | exact f.heater
@[simp] theorem snsCb_pid (s : State) : (snsCb s).pid = s.pid := by
  rcases snsCb_cases s with ⟨-, h⟩ | ⟨-, t, f, ⟨-, h⟩ | ⟨v, -, h⟩⟩ <;> rw [h] <;> first | rfl | exact f.pid
@[simp] theorem snsCb_rsp (s : State) : (snsCb s).rsp = s.rsp := by
  rcases snsCb_cases s with ⟨-, h⟩ | ⟨-, t, f, ⟨-, h⟩ | ⟨v, -, h⟩⟩ <;> rw [h] <;> first | rfl | exact f.rsp
@[simp] theorem snsCb_inputs (s : State) : (snsCb s).inputs = s.inputs := by
  rcases snsCb_cases s with ⟨-, h⟩ | ⟨-, t, f, ⟨-, h⟩ | ⟨v, -, h⟩⟩ <;> rw [h] <;> first | rfl | exact f.inputs

/-- The trace after SNS_CB: only EV_SAMPLE events are added (R134). -/
theorem snsCb_trace (s : State) : ∃ l : List S32, (snsCb s).trace = s.trace ++ l.map (fun v => Event.sample s.cfg.snsChannel v) := by
  rcases snsCb_cases s with ⟨-, h⟩ | ⟨-, t, f, ⟨-, h⟩ | ⟨v, -, h⟩⟩ <;> rw [h]
  · exact ⟨[], by simp⟩
  · exact f.trace
  · exact f.trace

/-- The sensor after SNS_CB: as it was, shut down, or with a sample taken. -/
theorem snsCb_sensor (s : State) :
    (snsIdle s.sensor = true ∧ (snsCb s).sensor = s.sensor) ∨
      (snsIdle s.sensor = false ∧
        ((snsCb s).sensor = snsShutdown s.sensor ∨ ∃ v, (snsCb s).sensor = takeSample s.cfg v s.sensor)) := by
  rcases snsCb_cases s with ⟨hi, h⟩ | ⟨hi, t, f, ⟨-, h⟩ | ⟨v, -, h⟩⟩
  · exact .inl ⟨hi, by rw [h]⟩
  · exact .inr ⟨hi, .inl (by rw [h])⟩
  · exact .inr ⟨hi, .inr ⟨v, by rw [h]⟩⟩

theorem snsIdle_eq_false (x : Sensor) :
    snsIdle x = false ↔ x.state ≠ .uninit ∧ x.state ≠ .shutdown ∧ x.samples.toNat < x.spr.toNat := by
  simp [snsIdle, BitVec.lt_def, and_assoc]

theorem snsIdle_eq_true (x : Sensor) :
    snsIdle x = true ↔ x.state = .uninit ∨ x.state = .shutdown ∨ x.spr.toNat ≤ x.samples.toNat := by
  simp [snsIdle, BitVec.le_def, or_assoc]

/-- Counting a sample below the limit does not wrap (R135). -/
theorem accumulate_samples (v : S32) (x : Sensor) (h : x.samples.toNat < x.spr.toNat) :
    (accumulate v x).samples.toNat = x.samples.toNat + 1 := by
  have := x.spr.isLt
  simp only [accumulate, BitVec.toNat_add]
  rw [Nat.mod_eq_of_lt] <;> simp; omega

@[simp] theorem accumulate_spr (v : S32) (x : Sensor) : (accumulate v x).spr = x.spr := rfl
@[simp] theorem accumulate_state (v : S32) (x : Sensor) : (accumulate v x).state = x.state := rfl
@[simp] theorem accumulate_code (v : S32) (x : Sensor) : (accumulate v x).code = x.code := rfl
@[simp] theorem accumulate_temperature (v : S32) (x : Sensor) : (accumulate v x).temperature = x.temperature := rfl
@[simp] theorem accumulate_previous (v : S32) (x : Sensor) : (accumulate v x).previous = v := rfl

/-- What taking a sample makes of the sensor (R134 to R139): shut down, a period in progress, or a completed period. -/
theorem takeSample_cases (c : Cfg) (v : S32) (x : Sensor) :
    (s32 v > s32 c.snsSun ∧ takeSample c v x = snsShutdown x) ∨
      (¬ s32 v > s32 c.snsSun ∧ (accumulate v x).samples < x.spr ∧ takeSample c v x = accumulate v x) ∨
      (¬ s32 v > s32 c.snsSun ∧ ¬ (accumulate v x).samples < x.spr ∧ takeSample c v x = complete (accumulate v x)) := by
  unfold takeSample
  by_cases h : s32 v > s32 c.snsSun
  · exact .inl ⟨h, if_pos h⟩
  · by_cases h2 : (accumulate v x).samples < x.spr
    · exact .inr (.inl ⟨h, h2, by rw [if_neg h, if_pos h2]⟩)
    · exact .inr (.inr ⟨h, h2, by rw [if_neg h, if_neg h2]⟩)

/-- The three outcomes of a completed period (R139). -/
theorem classify_cases (x : Sensor) (m : Int) :
    (m > s32 x.disconnectTemperature ∧ classify x m = (.hasNoData, .disconnected)) ∨
      (¬ m > s32 x.disconnectTemperature ∧ m < s32 x.nopowerTemperature ∧ classify x m = (.hasNoData, .noPower)) ∨
      (¬ m > s32 x.disconnectTemperature ∧ ¬ m < s32 x.nopowerTemperature ∧ classify x m = (.hasData, .ok)) := by
  unfold classify
  by_cases h : m > s32 x.disconnectTemperature
  · exact .inl ⟨h, if_pos h⟩
  · by_cases h2 : m < s32 x.nopowerTemperature
    · exact .inr (.inl ⟨h, h2, by rw [if_neg h, if_pos h2]⟩)
    · exact .inr (.inr ⟨h, h2, by rw [if_neg h, if_neg h2]⟩)

end Sys2Proof.Machine
end

