-- ==== Sys2Proof/Laws/Heater.lean ====
section
/-! SUPPORT. What the heater operations can do (43_heater.md). -/

namespace Sys2Proof.Machine

/-- The timer advances by one and saturates (R177 (a)). -/
theorem advanceTimer_toNat (h : Heater) :
    (advanceTimer h).regulationTimer.toNat = min 4294967295 (h.regulationTimer.toNat + 1) := by
  have := h.regulationTimer.isLt
  simp only [advanceTimer]
  unfold satu32
  split
  · rw [u32_toNat] <;> omega
  · rw [if_neg (by omega), u32_toNat] <;> omega

/-- What HTR_CB starts from once it is active and finds data: SNS_START done and the temperature mirrored (R174). -/
def withReading (s : State) : State := mirrorTemperature (snsStart s)

/-- The heater of `withReading` with its timer advanced (R177 (a)). -/
def heatingEntry (s : State) : State := { withReading s with heater := advanceTimer (withReading s).heater }

theorem heaterInactive_eq_true (h : Heater) :
    heaterInactive h = true ↔ h.state = .uninit ∨ h.state = .off ∨ h.state = .shutdown := by
  simp [heaterInactive, or_assoc]

/-- What HTR_CB can do, once and for all (R173): nothing; output off; record only; enter HEATING; time out; or regulate. -/
theorem htrCb_cases (s : State) :
    (heaterInactive s.heater = true ∧ htrCb s = s) ∨
      (heaterInactive s.heater = false ∧
        ((s.sensor.state ≠ .hasData ∧ htrCb s = pwmDuty 0 (snsStart s)) ∨
          (s.sensor.state = .hasData ∧
            ((s.heater.state = .cooling ∧ htrCb s = withReading s) ∨
              (s.heater.state = .on ∧
                htrCb s = { withReading s with heater := { (withReading s).heater with regulationTimer := 0, state := .heating } }) ∨
              (s.heater.state = .heating ∧
                ((ambientFires (heatingEntry s).heater = true ∧
                    htrCb s = heaterShutdown .ambientTimedOut (heatingEntry s)) ∨
                  (ambientFires (heatingEntry s).heater = false ∧ regulationFires (heatingEntry s).heater = true ∧
                    htrCb s = heaterShutdown .regulationTimedOut (heatingEntry s)) ∨
                  (ambientFires (heatingEntry s).heater = false ∧ regulationFires (heatingEntry s).heater = false ∧
                    htrCb s = regulate (heatingEntry s)))) ∨
              (s.heater.state = .atTemperature ∧ htrCb s = regulate (withReading s)))))) := by
  cases hi : heaterInactive s.heater with
  | true => exact .inl ⟨rfl, if_pos hi⟩
  | false =>
    refine .inr ⟨rfl, ?_⟩
    have hcb : htrCb s = if s.sensor.state ≠ .hasData then pwmDuty 0 (snsStart s) else htrCbWithData (withReading s) := by
      unfold htrCb; rw [if_neg (by simp [hi])]; rfl
    by_cases hd : s.sensor.state = .hasData
    · refine .inr ⟨hd, ?_⟩
      rw [if_neg (by simpa using hd)] at hcb
      have hs : (withReading s).heater.state = s.heater.state := rfl
      cases h : s.heater.state with
      | uninit => simp [heaterInactive, h] at hi
      | off => simp [heaterInactive, h] at hi
      | shutdown => simp [heaterInactive, h] at hi
      | cooling => exact .inl ⟨rfl, by rw [hcb]; unfold htrCbWithData; rw [hs, h]⟩
      | on => exact .inr (.inl ⟨rfl, by rw [hcb]; unfold htrCbWithData; rw [hs, h]⟩)
      | atTemperature => exact .inr (.inr (.inr ⟨rfl, by rw [hcb]; unfold htrCbWithData; rw [hs, h]⟩))
      | heating =>
        refine .inr (.inr (.inl ⟨rfl, ?_⟩))
        have hh : htrCb s = heatingStep (withReading s) := by rw [hcb]; unfold htrCbWithData; rw [hs, h]
        rw [hh]
        have hstep : heatingStep (withReading s) =
            match heatingDiagnostic (heatingEntry s).heater with
            | .ambientTimedOut => heaterShutdown .ambientTimedOut (heatingEntry s)
            | .regulationTimedOut => heaterShutdown .regulationTimedOut (heatingEntry s)
            | .ok => regulate (heatingEntry s) := rfl
        rw [hstep]
        cases ha : ambientFires (heatingEntry s).heater with
        | true => exact .inl ⟨rfl, by simp [heatingDiagnostic, ha]⟩
        | false =>
          cases hr : regulationFires (heatingEntry s).heater with
          | true => exact .inr (.inl ⟨rfl, rfl, by simp [heatingDiagnostic, ha, hr]⟩)
          | false => exact .inr (.inr ⟨rfl, rfl, by simp [heatingDiagnostic, ha, hr]⟩)
    · exact .inl ⟨hd, by rw [hcb, if_pos hd]⟩

@[simp] theorem regulate_cfg (s : State) : (regulate s).cfg = s.cfg := rfl
@[simp] theorem regulate_dev (s : State) : (regulate s).dev = s.dev := rfl
@[simp] theorem regulate_heater (s : State) : (regulate s).heater = s.heater := rfl
@[simp] theorem regulate_sensor (s : State) : (regulate s).sensor = s.sensor := rfl
@[simp] theorem regulate_pid (s : State) :
    (regulate s).pid = pidStep s.cfg s.heater.setpoint s.heater.temperature s.pid := rfl
@[simp] theorem regulate_rsp (s : State) : (regulate s).rsp = s.rsp := rfl
@[simp] theorem regulate_inputs (s : State) : (regulate s).inputs = s.inputs := rfl

/-- Closes a field of HTR_CB that no case of it changes. -/
theorem htrCb_field {α : Sort _} (f : State → α) (s : State)
    (h1 : f (pwmDuty 0 (snsStart s)) = f s) (h2 : f (withReading s) = f s)
    (h3 : f { withReading s with heater := { (withReading s).heater with regulationTimer := 0, state := .heating } } = f s)
    (h4 : f (heaterShutdown .ambientTimedOut (heatingEntry s)) = f s)
    (h5 : f (heaterShutdown .regulationTimedOut (heatingEntry s)) = f s)
    (h6 : f (regulate (heatingEntry s)) = f s) (h7 : f (regulate (withReading s)) = f s) : f (htrCb s) = f s := by
  rcases htrCb_cases s with ⟨-, h⟩ | ⟨-, ⟨-, h⟩ | ⟨-, ⟨-, h⟩ | ⟨-, h⟩ | ⟨-, ⟨-, h⟩ | ⟨-, -, h⟩ | ⟨-, -, h⟩⟩ | ⟨-, h⟩⟩⟩ <;>
    rw [h] <;> assumption

@[simp] theorem htrCb_cfg (s : State) : (htrCb s).cfg = s.cfg :=
  htrCb_field State.cfg s rfl rfl rfl rfl rfl rfl rfl
@[simp] theorem htrCb_dev (s : State) : (htrCb s).dev = s.dev :=
  htrCb_field State.dev s rfl rfl rfl rfl rfl rfl rfl
@[simp] theorem htrCb_rsp (s : State) : (htrCb s).rsp = s.rsp :=
  htrCb_field State.rsp s rfl rfl rfl rfl rfl rfl rfl
@[simp] theorem htrCb_inputs (s : State) : (htrCb s).inputs = s.inputs :=
  htrCb_field State.inputs s rfl rfl rfl rfl rfl rfl rfl
@[simp] theorem htrCb_sampleQueue (s : State) : (htrCb s).sampleQueue = s.sampleQueue :=
  htrCb_field State.sampleQueue s rfl rfl rfl rfl rfl rfl rfl
@[simp] theorem htrCb_freeDraws (s : State) : (htrCb s).freeDraws = s.freeDraws :=
  htrCb_field State.freeDraws s rfl rfl rfl rfl rfl rfl rfl

/-- HTR_CB never moves the top-value (44_pwm.md R195). -/
theorem htrCb_pwmTop (s : State) : (htrCb s).pwm.top = s.pwm.top :=
  htrCb_field (fun t => t.pwm.top) s rfl rfl rfl rfl rfl rfl rfl

/-- HTR_CB never moves the set-point (10_state.md R32). -/
theorem htrCb_setpoint (s : State) : (htrCb s).heater.setpoint = s.heater.setpoint :=
  htrCb_field (fun t => t.heater.setpoint) s rfl rfl rfl rfl rfl rfl rfl

/-- Of the sensor, HTR_CB does no more than SNS_START (R174, 10_state.md R66). -/
theorem htrCb_sensor (s : State) :
    (heaterInactive s.heater = true ∧ (htrCb s).sensor = s.sensor) ∨
      (heaterInactive s.heater = false ∧ (htrCb s).sensor = { s.sensor with samples := 0 }) := by
  rcases htrCb_cases s with ⟨hi, h⟩ | ⟨hi, ⟨-, h⟩ | ⟨-, ⟨-, h⟩ | ⟨-, h⟩ | ⟨-, ⟨-, h⟩ | ⟨-, -, h⟩ | ⟨-, -, h⟩⟩ | ⟨-, h⟩⟩⟩
  · exact .inl ⟨hi, by rw [h]⟩
  all_goals exact .inr ⟨hi, by rw [h]; rfl⟩

/-- The trace after HTR_CB: only EV_PWM events are added (R173). -/
theorem htrCb_trace (s : State) :
    ∃ l : List (PwmMode × U32 × U32), (htrCb s).trace = s.trace ++ l.map (fun e => Event.pwm e.1 e.2.1 e.2.2) := by
  rcases htrCb_cases s with ⟨-, h⟩ | ⟨-, ⟨-, h⟩ | ⟨-, ⟨-, h⟩ | ⟨-, h⟩ | ⟨-, ⟨-, h⟩ | ⟨-, -, h⟩ | ⟨-, -, h⟩⟩ | ⟨-, h⟩⟩⟩ <;> rw [h]
  · exact ⟨[], by simp⟩
  · exact ⟨[(_, _, _)], rfl⟩
  · exact ⟨[], by simp [withReading]⟩
  · exact ⟨[], by simp [withReading]⟩
  · exact ⟨[(_, _, _)], rfl⟩
  · exact ⟨[(_, _, _)], rfl⟩
  · exact ⟨[(_, _, _)], rfl⟩
  · exact ⟨[(_, _, _)], rfl⟩

/-- What HTR_ON can do (R171). -/
theorem htrOn_cases (s : State) :
    (s.heater.state = .shutdown ∧ htrOn s = setHeaterState .on (htrInit s)) ∨
      ((s.heater.state = .off ∨ s.heater.state = .cooling) ∧ htrOn s = setHeaterState .on s) ∨
      ((s.heater.state = .uninit ∨ s.heater.state = .on ∨ s.heater.state = .heating ∨ s.heater.state = .atTemperature) ∧
        htrOn s = s) := by
  unfold htrOn
  cases h : s.heater.state <;> simp

/-- What HTR_OFF can do (R172). -/
theorem htrOff_cases (s : State) :
    ((s.heater.state = .on ∨ s.heater.state = .heating ∨ s.heater.state = .atTemperature) ∧
        htrOff s = pwmDuty 0 (setHeaterState .off s)) ∨
      ((s.heater.state = .uninit ∨ s.heater.state = .off ∨ s.heater.state = .cooling ∨ s.heater.state = .shutdown) ∧
        htrOff s = s) := by
  unfold htrOff
  cases h : s.heater.state <;> simp

end Sys2Proof.Machine
end

