-- ==== Sys2Proof/Laws/Scheduler.lean ====
section
/-! SUPPORT. What POLL and DEVINIT can do (40_scheduler.md). -/

namespace Sys2Proof.Machine

/-- The state a serviced tick reaches once the 10 ms handler has returned (R112). -/
def after10ms (s : State) : State := handler10ms (clearTick s)

/-- The state a serviced tick reaches once the 100 ms handler has returned (R113). -/
def after100ms (s : State) : State := handler100ms (setCnt100ms 10 (after10ms s))

/-- What POLL can do, once and for all (R112 to R114). -/
theorem poll_cases (s : State) :
    (s.dev.tickFlag = false ∧ poll s = (0, s)) ∨
      (s.dev.tickFlag = true ∧
        ((2 ≤ s.dev.cnt100ms.toNat ∧ poll s = (1, setCnt100ms (dec s.dev.cnt100ms) (after10ms s))) ∨
          (s.dev.cnt100ms.toNat ≤ 1 ∧
            ((2 ≤ s.dev.cnt1s.toNat ∧ poll s = (3, setCnt1s (dec s.dev.cnt1s) (after100ms s))) ∨
              (s.dev.cnt1s.toNat ≤ 1 ∧ poll s = (7, handler1s (setCnt1s 10 (after100ms s)))))))) := by
  cases hf : s.dev.tickFlag with
  | false => exact .inl ⟨rfl, by unfold poll; rw [if_neg (by simp [hf])]⟩
  | true =>
    refine .inr ⟨rfl, ?_⟩
    have hp : poll s = pollStage100ms (after10ms s) := by unfold poll; rw [if_pos hf]; rfl
    have h1 : (after10ms s).dev = { s.dev with tickFlag := false } := by
      show (snsCb _).dev = _
      rw [snsCb_dev]; rfl
    have h2 : (after100ms s).dev = { s.dev with tickFlag := false, cnt100ms := 10 } := by
      show (htrCb _).dev = _
      rw [htrCb_dev]; show { (after10ms s).dev with cnt100ms := 10 } = _; rw [h1]
    rw [hp]
    by_cases hc : s.dev.cnt100ms.toNat ≤ 1
    · refine .inr ⟨hc, ?_⟩
      have hq : pollStage100ms (after10ms s) = pollStage1s (after100ms s) := by
        unfold pollStage100ms
        dsimp only
        rw [h1, if_neg (by simpa using (dec_eq_zero_iff _).2 hc)]; rfl
      rw [hq]
      unfold pollStage1s
      dsimp only
      rw [h2]
      by_cases hd : s.dev.cnt1s.toNat ≤ 1
      · exact .inr ⟨hd, by rw [if_neg (by simpa using (dec_eq_zero_iff _).2 hd)]; rfl⟩
      · exact .inl ⟨by omega, by rw [if_pos (fun h => hd ((dec_eq_zero_iff _).1 h))]⟩
    · refine .inl ⟨by omega, ?_⟩
      unfold pollStage100ms
      dsimp only
      rw [h1, if_pos (fun h => hc ((dec_eq_zero_iff _).1 h))]

theorem after10ms_eq (s : State) : after10ms s = snsCb ((clearTick s).emit .ms10) := rfl

theorem after100ms_eq (s : State) : after100ms s = htrCb ((setCnt100ms 10 (after10ms s)).emit .ms100) := rfl

@[simp] theorem after10ms_cfg (s : State) : (after10ms s).cfg = s.cfg := by simp [after10ms_eq]
@[simp] theorem after10ms_dev (s : State) : (after10ms s).dev = { s.dev with tickFlag := false } := by simp [after10ms_eq]
@[simp] theorem after10ms_pwm (s : State) : (after10ms s).pwm = s.pwm := by simp [after10ms_eq]
@[simp] theorem after10ms_heater (s : State) : (after10ms s).heater = s.heater := by simp [after10ms_eq]
@[simp] theorem after10ms_pid (s : State) : (after10ms s).pid = s.pid := by simp [after10ms_eq]
@[simp] theorem after10ms_rsp (s : State) : (after10ms s).rsp = s.rsp := by simp [after10ms_eq]
@[simp] theorem after10ms_inputs (s : State) : (after10ms s).inputs = s.inputs := by simp [after10ms_eq]

@[simp] theorem after100ms_cfg (s : State) : (after100ms s).cfg = s.cfg := by simp [after100ms_eq]
@[simp] theorem after100ms_dev (s : State) :
    (after100ms s).dev = { s.dev with tickFlag := false, cnt100ms := 10 } := by simp [after100ms_eq]
@[simp] theorem after100ms_rsp (s : State) : (after100ms s).rsp = s.rsp := by simp [after100ms_eq]
@[simp] theorem after100ms_inputs (s : State) : (after100ms s).inputs = s.inputs := by simp [after100ms_eq]

@[simp] theorem htrInit_cfg (s : State) : (htrInit s).cfg = s.cfg := rfl
@[simp] theorem htrInit_dev (s : State) : (htrInit s).dev = s.dev := rfl
@[simp] theorem htrInit_sensor (s : State) : (htrInit s).sensor = s.sensor := rfl
@[simp] theorem htrInit_pid (s : State) : (htrInit s).pid = s.pid := rfl
@[simp] theorem htrInit_heater (s : State) : (htrInit s).heater = heaterInitial s.cfg s.heater := rfl
@[simp] theorem htrInit_pwm (s : State) : (htrInit s).pwm = { s.pwm with mode := .off, compare := 0 } := rfl
@[simp] theorem htrInit_trace (s : State) : (htrInit s).trace = s.trace ++ [.pwm .off s.pwm.top 0] := rfl
@[simp] theorem htrInit_rsp (s : State) : (htrInit s).rsp = s.rsp := rfl
@[simp] theorem htrInit_inputs (s : State) : (htrInit s).inputs = s.inputs := rfl
@[simp] theorem htrInit_sampleQueue (s : State) : (htrInit s).sampleQueue = s.sampleQueue := rfl
@[simp] theorem htrInit_freeDraws (s : State) : (htrInit s).freeDraws = s.freeDraws := rfl

end Sys2Proof.Machine
end

