-- ==== Sys2Proof/Laws/Step.lean ====
section
/-! SUPPORT. What a step can do (00_scope.md R17), and the fields of a command word. -/

namespace Sys2Proof.Machine

/-- What a step can do, once and for all: idle, a TICK event, an operation, or an illegal command word. -/
theorem step_cases (s : State) :
    (s.inputs = [] ∧ step s = .next s) ∨
      (∃ rest, s.inputs = .tick :: rest ∧ step s = .next (tickEvent { s with inputs := rest })) ∨
      (∃ w rest i, s.inputs = .command w :: rest ∧ decode w = .instr i ∧ step s = exec i { s with inputs := rest }) ∨
      (∃ w rest op, s.inputs = .command w :: rest ∧ decode w = .illegalOp op ∧
        step s = .next (illegalCommand { s with inputs := rest })) := by
  unfold step fetch
  cases h : s.inputs with
  | nil => exact .inl ⟨rfl, rfl⟩
  | cons a rest =>
    cases a with
    | tick => exact .inr (.inl ⟨rest, rfl, rfl⟩)
    | command w =>
      cases hd : decode w with
      | instr i => exact .inr (.inr (.inl ⟨w, rest, i, rfl, hd, by simp [hd]⟩))
      | illegalOp op => exact .inr (.inr (.inr ⟨w, rest, op, rfl, hd, by simp [hd]⟩))

end Sys2Proof.Machine

namespace Sys2Proof

@[simp] theorem cmdOp_cmdWord (op : BitVec 8) (a b : U32) : cmdOp (cmdWord op a b) = op := by
  apply BitVec.eq_of_getLsbD_eq
  intro i hi
  simp only [cmdOp, cmdWord, BitVec.getLsbD_extractLsb', BitVec.getLsbD_append, hi, decide_true, Bool.true_and]
  rw [if_neg (by omega), if_neg (by omega)]
  congr 1; omega

@[simp] theorem cmdA_cmdWord (op : BitVec 8) (a b : U32) : cmdA (cmdWord op a b) = a := by
  apply BitVec.eq_of_getLsbD_eq
  intro i hi
  simp only [cmdA, cmdWord, BitVec.getLsbD_extractLsb', BitVec.getLsbD_append, hi, decide_true, Bool.true_and]
  rw [if_neg (by omega), if_pos (by omega)]
  congr 1; omega

@[simp] theorem cmdB_cmdWord (op : BitVec 8) (a b : U32) : cmdB (cmdWord op a b) = b := by
  apply BitVec.eq_of_getLsbD_eq
  intro i hi
  simp only [cmdB, cmdWord, BitVec.getLsbD_extractLsb', BitVec.getLsbD_append, hi, decide_true, Bool.true_and]
  rw [if_pos (by omega)]
  congr 1; omega

/-- A command word is its three fields (30_encoding.md R90). -/
theorem cmdWord_fields (w : CmdWord) : cmdWord (cmdOp w) (cmdA w) (cmdB w) = w := by
  apply BitVec.eq_of_getLsbD_eq
  intro i hi
  simp only [cmdOp, cmdA, cmdB, cmdWord, BitVec.getLsbD_extractLsb', BitVec.getLsbD_append]
  by_cases h1 : i < 32
  · simp [h1]
  · by_cases h2 : i - 32 < 32
    · rw [if_neg h1, if_pos h2]; simp [h2]; congr 1; omega
    · rw [if_neg h1, if_neg h2]
      have : i - 32 - 32 < 8 := by omega
      simp [this]; congr 1; omega

end Sys2Proof
end

