-- ==== Sys2Proof/Laws/Draws.lean ====
section
/-! SUPPORT. What the raw sample source and `Acquire()` can answer (41_sensor.md R131, R132), in the terms of Safety. -/

namespace Sys2Proof.Machine

@[simp] theorem afterDraws_zero (s : State) : afterDraws 0 s = s := by
  simp [afterDraws]

@[simp] theorem afterDraws_cfg (n : Nat) (s : State) : (afterDraws n s).cfg = s.cfg := rfl
@[simp] theorem afterDraws_dev (n : Nat) (s : State) : (afterDraws n s).dev = s.dev := rfl
@[simp] theorem afterDraws_pwm (n : Nat) (s : State) : (afterDraws n s).pwm = s.pwm := rfl
@[simp] theorem afterDraws_heater (n : Nat) (s : State) : (afterDraws n s).heater = s.heater := rfl
@[simp] theorem afterDraws_sensor (n : Nat) (s : State) : (afterDraws n s).sensor = s.sensor := rfl
@[simp] theorem afterDraws_pid (n : Nat) (s : State) : (afterDraws n s).pid = s.pid := rfl
@[simp] theorem afterDraws_rsp (n : Nat) (s : State) : (afterDraws n s).rsp = s.rsp := rfl
@[simp] theorem afterDraws_inputs (n : Nat) (s : State) : (afterDraws n s).inputs = s.inputs := rfl

/-- The request number `n` gets the answer number `n` (R131). -/
theorem drawSample_afterDraws (n : Nat) (s : State) :
    drawSample (afterDraws n s) = (sampleAnswer s n, afterDraws (n + 1) s) := by
  unfold drawSample
  cases hq : s.sampleQueue.drop n with
  | nil =>
    have hl : s.sampleQueue.length ≤ n := by simpa using hq
    have hq1 : s.sampleQueue.drop (n + 1) = [] := List.drop_eq_nil_of_le (by omega)
    have hq2 : (afterDraws n s).sampleQueue = [] := hq
    have ha : sampleAnswer s n = Config.rawSample s.cfg.snsChannel (s.freeDraws + (n - s.sampleQueue.length)) := by
      unfold sampleAnswer; rw [List.getElem?_eq_none hl]
    rw [hq2]
    refine Prod.ext ha.symm ?_
    simp only [afterDraws, State.emit, List.range_succ, List.map_append, ha, List.map_cons, List.map_nil, hq1, hq]
    simp only [State.mk.injEq, true_and, List.append_assoc]
    omega
  | cons v rest =>
    have hl : n < s.sampleQueue.length := by
      by_contra h; rw [List.drop_eq_nil_of_le (by omega)] at hq; cases hq
    have hv : s.sampleQueue[n]? = some v := by simpa using congrArg List.head? hq
    have hr : s.sampleQueue.drop (n + 1) = rest := by simpa using congrArg List.tail hq
    have hq2 : (afterDraws n s).sampleQueue = v :: rest := hq
    have ha : sampleAnswer s n = v := by unfold sampleAnswer; rw [hv]
    rw [hq2]
    refine Prod.ext ha.symm ?_
    simp only [afterDraws, State.emit, List.range_succ, List.map_append, ha, List.map_cons, List.map_nil, hr]
    simp only [State.mk.injEq, true_and, List.append_assoc]
    omega

theorem drawSample_eq (s : State) : drawSample s = (sampleAnswer s 0, afterDraws 1 s) := by
  simpa using drawSample_afterDraws 0 s

/-- The requests after the first `n` get the answers from number `n` on. -/
theorem sampleAnswer_afterDraws (n k : Nat) (s : State) : sampleAnswer (afterDraws n s) k = sampleAnswer s (n + k) := by
  unfold sampleAnswer afterDraws
  simp only [List.getElem?_drop, List.length_drop]
  cases h : s.sampleQueue[n + k]? with
  | some v => rfl
  | none =>
    have := List.getElem?_eq_none_iff.1 h
    simp only
    congr 1; omega

/-- The variance test accepts what R132 does not reject. -/
theorem withinVariance_iff (s : State) (k : Nat) : withinVariance s.sensor (sampleAnswer s k) = true ↔ ¬ Rejected s k := by
  unfold withinVariance Rejected
  rw [absInt_eq_natAbs, ← Int.abs_eq_natAbs, decide_eq_true_eq, not_lt]
  rfl

/-- The loop of `Acquire()` stops at the first answer that is not rejected (R132). -/
theorem resample_accepts (s : State) (k j m : Nat) (hj : j ≤ k) (hm : k ≤ j + m) (hrej : ∀ i < k, Rejected s i)
    (hacc : ¬ Rejected s k) :
    resample m (sampleAnswer s j) (afterDraws (j + 1) s) = (some (sampleAnswer s k), afterDraws (k + 1) s) := by
  have hstop : ∀ m', resample m' (sampleAnswer s k) (afterDraws (k + 1) s) = (some (sampleAnswer s k), afterDraws (k + 1) s) := by
    intro m'
    unfold resample
    exact if_pos ((withinVariance_iff s k).2 hacc)
  induction m generalizing j with
  | zero =>
    have : j = k := by omega
    subst this; exact hstop 0
  | succ m ih =>
    by_cases hjk : j = k
    · subst hjk; exact hstop (m + 1)
    · have hno : ¬ (withinVariance (afterDraws (j + 1) s).sensor (sampleAnswer s j) = true) :=
        fun h => (withinVariance_iff s j).1 h (hrej j (by omega))
      unfold resample
      rw [if_neg hno]
      simp only [drawSample_afterDraws]
      exact ih (j + 1) (by omega) (by omega)

/-- The loop of `Acquire()` fails when every answer within the budget is rejected (R132). -/
theorem resample_rejects (s : State) (j m : Nat) (hrej : ∀ i ≤ j + m, Rejected s i) :
    resample m (sampleAnswer s j) (afterDraws (j + 1) s) = (none, afterDraws (j + m + 1) s) := by
  have hno : ¬ (withinVariance (afterDraws (j + 1) s).sensor (sampleAnswer s j) = true) :=
    fun h => (withinVariance_iff s j).1 h (hrej j (by omega))
  induction m generalizing j with
  | zero => unfold resample; rw [if_neg hno]
  | succ m ih =>
    unfold resample; rw [if_neg hno]
    simp only [drawSample_afterDraws]
    rw [ih (j + 1) (fun i hi => hrej i (by omega))
      (fun h => (withinVariance_iff s (j + 1)).1 h (hrej (j + 1) (by omega)))]
    congr 2; omega

/-- `Acquire()` answers the accepted sample and has drawn what came before it (R132). -/
theorem acquire_accepts (s : State) (k : Nat) (h : Accepts s k) :
    acquire s = (some (sampleAnswer s k), afterDraws (k + 1) s) := by
  unfold acquire
  rw [drawSample_eq]
  rcases h with ⟨h, rfl⟩ | ⟨h0, hk, hr, ha⟩
  · exact if_pos h
  · exact (if_neg h0).trans (resample_accepts s k 0 _ (by omega) (by omega) hr ha)

/-- `Acquire()` fails when the sample and every resample is rejected (R132). -/
theorem acquire_rejects (s : State) (h0 : s.sensor.samples ≠ 0) (hr : ∀ k ≤ s.sensor.retries.toNat, Rejected s k) :
    acquire s = (none, afterDraws (s.sensor.retries.toNat + 1) s) := by
  unfold acquire
  rw [drawSample_eq]
  refine (if_neg h0).trans ?_
  have := resample_rejects s 0 s.sensor.retries.toNat (fun i hi => hr i (by omega))
  simpa using this

end Sys2Proof.Machine
end

