-- ==== Sys2Proof/Laws/PerInstr.lean ====
section
/-! SUPPORT. The families of statements made per operation, one lemma per constructor of Instr. -/

namespace Sys2Proof.Laws.EncodedFields

/-- The command word of an operation carries its opcode and its operand fields, and zero in the fields its format does not use
(30_encoding.md R90, R93, R94). -/
def Statement (i : Instr) : Prop :=
  cmdOp (encode i) = i.opcode ∧ cmdA (encode i) = i.fields.1 ∧ cmdB (encode i) = i.fields.2 ∧
    encode i &&& ~~~(0xFF_00000000_00000000 ||| i.format.operandMask) = 0

/-- The three fields of any encoded operation. -/
theorem fields (i : Instr) :
    cmdOp (encode i) = i.opcode ∧ cmdA (encode i) = i.fields.1 ∧ cmdB (encode i) = i.fields.2 := by
  simp [encode]

/-- A command word that holds zero in B has no bit outside opcode and A. -/
theorem mask_a (op : BitVec 8) (a : U32) :
    cmdWord op a 0 &&& ~~~(0xFF_00000000_00000000 ||| Format.a.operandMask) = 0 := by
  apply BitVec.eq_of_getLsbD_eq
  intro i hi
  by_cases h : i < 32
  · have hw : (cmdWord op a 0).getLsbD i = false := by
      unfold cmdWord
      rw [BitVec.getLsbD_append, if_pos h]
      simp
    rw [BitVec.getLsbD_and, hw]; simp
  · have hm : (~~~((0xFF_00000000_00000000 : CmdWord) ||| Format.a.operandMask)).getLsbD i = false := by
      interval_cases i <;> rfl
    rw [BitVec.getLsbD_and, hm]; simp

/-- A command word with both operands has no bit outside them and the opcode. -/
theorem mask_ab (w : CmdWord) : w &&& ~~~(0xFF_00000000_00000000 ||| Format.ab.operandMask) = 0 := by
  have : ~~~((0xFF_00000000_00000000 : CmdWord) ||| Format.ab.operandMask) = 0 := by decide
  rw [this]; simp

theorem devinit : Statement .devinit := ⟨by decide, by decide, by decide, by decide⟩
theorem tickq : Statement .tickq := ⟨by decide, by decide, by decide, by decide⟩
theorem poll : Statement .poll := ⟨by decide, by decide, by decide, by decide⟩
theorem snsInit : Statement .snsInit := ⟨by decide, by decide, by decide, by decide⟩
theorem snsStart : Statement .snsStart := ⟨by decide, by decide, by decide, by decide⟩
theorem snsCb : Statement .snsCb := ⟨by decide, by decide, by decide, by decide⟩
theorem pidInit : Statement .pidInit := ⟨by decide, by decide, by decide, by decide⟩
theorem pidCompute (a b : S32) : Statement (.pidCompute a b) :=
  ⟨(fields _).1, (fields _).2.1, (fields _).2.2, mask_ab _⟩
theorem htrInit : Statement .htrInit := ⟨by decide, by decide, by decide, by decide⟩
theorem htrOn : Statement .htrOn := ⟨by decide, by decide, by decide, by decide⟩
theorem htrOff : Statement .htrOff := ⟨by decide, by decide, by decide, by decide⟩
theorem htrCb : Statement .htrCb := ⟨by decide, by decide, by decide, by decide⟩
theorem pwmFreq (hz : U32) : Statement (.pwmFreq hz) := ⟨(fields _).1, (fields _).2.1, (fields _).2.2, mask_a _ _⟩
theorem pwmDuty (p : S32) : Statement (.pwmDuty p) := ⟨(fields _).1, (fields _).2.1, (fields _).2.2, mask_a _ _⟩
theorem regrd (a : U32) : Statement (.regrd a) := ⟨(fields _).1, (fields _).2.1, (fields _).2.2, mask_a _ _⟩
theorem regwr (a b : U32) : Statement (.regwr a b) := ⟨(fields _).1, (fields _).2.1, (fields _).2.2, mask_ab _⟩
theorem fldrd (id : U32) : Statement (.fldrd id) := ⟨(fields _).1, (fields _).2.1, (fields _).2.2, mask_a _ _⟩
theorem cfgwr (id v : U32) : Statement (.cfgwr id v) := ⟨(fields _).1, (fields _).2.1, (fields _).2.2, mask_ab _⟩

end Sys2Proof.Laws.EncodedFields
end

