-- ==== Sys2Proof/Laws/Views.lean ====
section
/-! SUPPORT. The decoder, the register file and the field-id space in the terms of Safety, and a run step by step. -/

namespace Sys2Proof.Machine

/-- One step of a run of the host's interface. -/
theorem run_succ {s t : State} (k : Nat) (h : step s = .next t) :
    Host.Core.run core (k + 1) s = Host.Core.run core k t := by
  have h' : Host.Core.step core s = .next t := h
  refine (Host.Core.run.eq_2 core s k).trans ?_
  rw [h']

theorem run_zero (s : State) : Host.Core.run core 0 s = .next s := rfl

/-- A byte that R95 does not list is an opcode of R93. -/
theorem opcode_of_legal : ∀ o : BitVec 8, illegalByte o.toNat = false →
    o ∈ ([0x01, 0x02, 0x03, 0x10, 0x11, 0x12, 0x20, 0x21, 0x30] ++ [0x31, 0x32, 0x33, 0x40, 0x41, 0x50, 0x51, 0x60, 0x61] :
      List (BitVec 8)) := by decide

/-- What the decoder can answer, once and for all (R95, R97): an operation whose opcode and used fields are those of the word, or the
illegal opcode. -/
theorem decode_cases (w : CmdWord) :
    (∃ i, decode w = .instr i ∧ i.opcode = cmdOp w ∧ (i.format = .n → i.fields = (0, 0)) ∧
        (i.format = .a → i.fields = (cmdA w, 0)) ∧ (i.format = .ab → i.fields = (cmdA w, cmdB w)) ∧
        illegalByte (cmdOp w).toNat = false) ∨
      (decode w = .illegalOp (cmdOp w) ∧ illegalByte (cmdOp w).toNat = true) := by
  have hw : decode w = decode (cmdWord (cmdOp w) (cmdA w) (cmdB w)) := by rw [cmdWord_fields]
  generalize cmdOp w = o at *
  generalize cmdA w = a at *
  generalize cmdB w = b at *
  rw [hw]
  clear hw
  cases hi : illegalByte o.toNat with
  | false =>
    have hm := opcode_of_legal o hi
    simp only [List.cons_append, List.nil_append, List.mem_cons, List.not_mem_nil, or_false] at hm
    refine .inl ?_
    unfold decode
    simp only [cmdOp_cmdWord, cmdA_cmdWord, cmdB_cmdWord]
    rcases hm with h | h | h | h | h | h | h | h | h | h | h | h | h | h | h | h | h | h <;> subst h <;>
      (refine ⟨_, rfl, rfl, ?_, ?_, ?_, trivial⟩ <;> intro h <;> first | rfl | (exact absurd h (by simp [Instr.format])))
  | true =>
    refine .inr ⟨?_, rfl⟩
    unfold decode
    simp only [cmdOp_cmdWord, cmdA_cmdWord, cmdB_cmdWord]
    split <;> first | rfl | exact absurd hi (by decide)

theorem byteOf_zeroExtend (x : U8) : byteOf (x.zeroExtend 32) 0 = x := by
  unfold byteOf
  apply BitVec.eq_of_getLsbD_eq
  intro i hi
  simp [hi]
  intro; omega

/-- The map of R76 is the register file byte by byte. -/
theorem memRead_registerFile (s : State) (n : Nat) (h : n < (registerFile s).length) :
    memRead n s = some ((registerFile s)[n]'h) := by
  have h' : n < 24 := h
  interval_cases n
  · exact congrArg some (byteOf_zeroExtend _)
  · exact congrArg some (byteOf_zeroExtend _)
  · rfl
  · rfl
  · rfl
  · rfl
  · exact congrArg some (byteOf_zeroExtend _)
  · exact congrArg some (byteOf_zeroExtend _)
  all_goals rfl

/-- An id without a row is one that R59 does not list. -/
theorem fieldRow_eq_none_iff (id : U32) : fieldRow id = none ↔ id.toNat ∉ definedIds := by
  have h : definedIds = fieldTable.map FieldRow.id := by decide
  rw [h]; unfold fieldRow
  simp [List.find?_eq_none]

/-- The cfg ids of R206 are the rows marked in R59. -/
theorem mem_cfgIds_iff (id : U32) : id.toNat ∈ cfgIds ↔ ∃ r, fieldRow id = some r ∧ r.cfg = true := by
  have h : ∀ n ∈ definedIds, (n ∈ cfgIds ↔ ∃ r, fieldTable.find? (fun r => r.id == n) = some r ∧ r.cfg = true) := by decide
  by_cases hd : id.toNat ∈ definedIds
  · exact h _ hd
  · have hn := (fieldRow_eq_none_iff id).2 hd
    have hc : id.toNat ∉ cfgIds := by
      have hsub : ∀ n ∈ cfgIds, n ∈ definedIds := by decide
      exact fun hc => hd (hsub _ hc)
    simp [hn, hc]

end Sys2Proof.Machine
end

