-- ==== Sys2Proof/Tests/Slice0.lean ====
section
/-! SUPPORT. The model's own tests: ill-formed terms that the checks refuse, words written out from 30_encoding.md, one step each of the
worked examples of the spec, and a concrete state for the hypotheses of each statement. -/

namespace Sys2Proof.Tests

open Sys2Proof.Machine

/-! ## Small states -/

/-- The state an operation leaves. -/
def did (i : Instr) (s : State) : State :=
  match exec i s with
  | .next t => t
  | .fault _ => s
  | .refused _ => s

/-- After DEVINIT from reset, with the default `CFG`. -/
def ready : State := did .devinit State.reset

/-- `ready` with a sensor that has data at 25.00 degrees and the heater in a given state. -/
def warm (h : HeaterState) (temperature : S32) : State :=
  { ready with
    heater := { ready.heater with state := h, setpoint := 20000 }
    sensor := { ready.sensor with state := .hasData, temperature := temperature, samples := 4 } }

/-- `ready` in mid-period: `n` samples of 150.00 degrees taken, `spr` asked for, and the given answers to come. -/
def sampling (n spr : U8) (answers : List S32) : State :=
  { ready with
    sensor :=
      { ready.sensor with
        spr := spr, samples := n, retries := 1, previous := 15000, accumulator := n.zeroExtend 40 * 15000 }
    sampleQueue := answers }

/-- The two bytes of the last response: status code and data. -/
def answer (s : State) : Option (Status × U32) := s.rsp.map (fun r => (r.status, r.data))

/-! ## Ill-formed terms (00_scope.md R9, 30_encoding.md R94) -/

theorem test_wf_default : Cfg.default.wellFormed = true := by decide
theorem test_wf_refuses_clk_zero : ({ Cfg.default with clkHz := 0 } : Cfg).wellFormed = false := by decide
theorem test_wf_refuses_prescale_zero : ({ Cfg.default with pwmPrescale := 0 } : Cfg).wellFormed = false := by decide
theorem test_wf_refuses_min_zero : ({ Cfg.default with pwmMinRes := 0 } : Cfg).wellFormed = false := by decide
theorem test_wf_refuses_min_above_max : ({ Cfg.default with pwmMinRes := 256 } : Cfg).wellFormed = false := by decide
theorem test_wf_refuses_max_large : ({ Cfg.default with pwmMaxRes := 65536 } : Cfg).wellFormed = false := by decide
theorem test_wf_refuses_wide_byte : (Instr.regwr 2 0xABCDEF20).wellFormed = false := by decide

/-! ## Decoding: words written out from 30_encoding.md R90 and R93 -/

theorem test_decode_devinit : decode 0x01_00000000_00000000 = .instr .devinit := by decide
theorem test_decode_tickq : decode 0x02_00000000_00000000 = .instr .tickq := by decide
theorem test_decode_poll : decode 0x03_00000000_00000000 = .instr .poll := by decide
theorem test_decode_sns_init : decode 0x10_00000000_00000000 = .instr .snsInit := by decide
theorem test_decode_sns_start : decode 0x11_00000000_00000000 = .instr .snsStart := by decide
theorem test_decode_sns_cb : decode 0x12_00000000_00000000 = .instr .snsCb := by decide
theorem test_decode_pid_init : decode 0x20_00000000_00000000 = .instr .pidInit := by decide
theorem test_decode_pid_compute : decode 0x21_00004E20_00003A98 = .instr (.pidCompute 20000 15000) := by decide
theorem test_decode_htr_init : decode 0x30_00000000_00000000 = .instr .htrInit := by decide
theorem test_decode_htr_on : decode 0x31_00000000_00000000 = .instr .htrOn := by decide
theorem test_decode_htr_off : decode 0x32_00000000_00000000 = .instr .htrOff := by decide
theorem test_decode_htr_cb : decode 0x33_00000000_00000000 = .instr .htrCb := by decide
theorem test_decode_pwm_freq : decode 0x40_000003E8_00000000 = .instr (.pwmFreq 1000) := by decide
theorem test_decode_pwm_duty : decode 0x41_00001388_00000000 = .instr (.pwmDuty 5000) := by decide
theorem test_decode_regrd : decode 0x50_00000002_00000000 = .instr (.regrd 2) := by decide
theorem test_decode_regwr : decode 0x51_00000002_00000020 = .instr (.regwr 2 0x20) := by decide
theorem test_decode_fldrd : decode 0x60_00000004_00000000 = .instr (.fldrd 4) := by decide
theorem test_decode_cfgwr : decode 0x61_00000039_00000190 = .instr (.cfgwr 0x39 400) := by decide
/-- R95: an all-zero word is not an operation. -/
theorem test_decode_zero : decode 0 = .illegalOp 0 := by decide
/-- R94: unused operand bits are ignored. -/
theorem test_decode_ignores : decode 0x03_FFFFFFFF_FFFFFFFF = .instr .poll := by decide
theorem test_table_word : decodeTableWord 72 0x33_00000000_00000000 = some .htrCb := by decide

/-! ## One step of each operation, from the worked examples -/

/-- R116. -/
theorem test_devinit : (ready.pwm.top, ready.dev.pwmFreq, ready.sensor.spr, ready.pid.kp, ready.pid.outMax) =
    (250, 1000, 4, 200, 10000) := by decide
theorem test_devinit_states : (ready.pwm.mode, ready.sensor.state, ready.heater.state, answer ready) =
    (.off, .hasNoData, .off, some (.ok, 0)) := by decide
/-- R111. -/
theorem test_tickq : answer (did .tickq (tickEvent State.reset)) = some (.ok, 1) := by decide
/-- R112. -/
theorem test_poll : let t := did .poll (tickEvent State.reset)
    (answer t, t.dev.tickFlag, t.dev.cnt100ms, t.dev.cnt1s, t.trace) = (some (.ok, 1), false, 9, 10, [.tick, .ms10]) := by
  decide
/-- R114: the POLL in which both counters stand at 1 runs all three handlers. -/
theorem test_poll_all : let t := did .poll { State.reset with dev := { tickFlag := true, cnt100ms := 1, cnt1s := 1, pwmFreq := 0 } }
    (answer t, t.dev.cnt100ms, t.dev.cnt1s, t.trace) = (some (.ok, 7), 10, 10, [.ms10, .ms100, .s1]) := by decide
/-- R130. -/
theorem test_sns_init : let t := did .snsInit { ready with sensor := { ready.sensor with state := .shutdown, code := .badReadings } }
    (t.sensor.state, t.sensor.code, t.sensor.samples) = (.hasNoData, .ok, 0) := by decide
/-- R133. -/
theorem test_sns_start : let t := did .snsStart { ready with sensor := { ready.sensor with samples := 3, accumulator := 45010 } }
    (t.sensor.samples, t.sensor.accumulator) = (0, 45010) := by decide
/-- R134. -/
theorem test_sns_cb : let t := did .snsCb { ready with sampleQueue := [15000] }
    (answer t, t.sensor.samples, t.sensor.accumulator, t.sensor.previous) = (some (.ok, 1), 1, 15000, 15000) := by decide
/-- R138: a sum of -60021 over 4 samples gives -15005. -/
theorem test_sns_cb_mean :
    (complete { ready.sensor with accumulator := BitVec.ofInt 40 (-60021), nopowerTemperature := BitVec.ofInt 32 (-20000) }).temperature =
      BitVec.ofInt 32 (-15005) := by decide
/-- R150. -/
theorem test_pid_init : let t := did .pidInit { ready with pid := { ready.pid with integral := 5000, prevError := 5000, kp := 300 } }
    (t.pid.integral, t.pid.prevError, t.pid.kp) = (0, 0, 200) := by decide
/-- R151. -/
theorem test_pid_compute : let t := did (.pidCompute 20000 15000) ready
    (answer t, t.pid.error, t.pid.integral, t.pid.derivative) = (some (.ok, 0x2710), 5000, 5000, 5000) := by decide
/-- R152: setpoint 2147483647 and measured -1 saturate. -/
theorem test_pid_saturates : (did (.pidCompute 0x7FFFFFFF 0xFFFFFFFF) ready).pid.error = 0x7FFFFFFF := by decide
/-- R170. -/
theorem test_htr_init :
    let t := did .htrInit { ready with heater := { ready.heater with state := .heating, regulationTimer := 57 },
                                       pwm := { ready.pwm with mode := .run, compare := 125 } }
    (t.heater.state, t.heater.regulationTimer, t.pwm.mode, t.pwm.compare) = (.off, 0, .off, 0) := by decide
/-- R171. -/
theorem test_htr_on :
    let t := did .htrOn { ready with heater := { ready.heater with state := .shutdown, code := .ambientTimedOut, regulationTimer := 900 } }
    (answer t, t.heater.state, t.heater.code, t.heater.regulationTimer) = (some (.ok, 2), .on, .ok, 0) := by decide
/-- R253. -/
theorem test_htr_on_uninit : answer (did .htrOn State.reset) = some (.failed, 0) := by decide
/-- R172. -/
theorem test_htr_off :
    let t := did .htrOff { ready with heater := { ready.heater with state := .heating },
                                      pwm := { ready.pwm with mode := .run, compare := 125 } }
    (answer t, t.heater.state, t.pwm.mode, t.pwm.compare) = (some (.ok, 1), .off, .off, 0) := by decide
theorem test_htr_off_uninit : answer (did .htrOff State.reset) = some (.failed, 0) := by decide
/-- R173. -/
theorem test_htr_cb : let t := did .htrCb (warm .on 2500)
    (answer t, t.heater.state, t.heater.regulationTimer, t.heater.temperature, t.sensor.samples) = (some (.ok, 3), .heating, 0, 2500, 0) := by
  decide
/-- R177, R178: the regulating callback drives the output with the clamped PID output, 100.00 percent: `PWM_RUN`, compare = top. -/
theorem test_htr_cb_regulates : let t := did .htrCb (warm .heating 2500)
    (t.heater.regulationTimer, t.pid.output, t.pwm.mode, t.pwm.compare) = (1, 10000, .run, 250) := by decide
/-- R191. -/
theorem test_pwm_freq : let t := did (.pwmFreq 100) ready
    (answer t, t.pwm.top, t.dev.pwmFreq) = (some (.ok, 255), 255, 980) := by decide
theorem test_pwm_freq_zero : (did (.pwmFreq 0) ready).dev.pwmFreq = 980 := by decide
/-- R192. -/
theorem test_pwm_duty : let t := did (.pwmDuty 3333) ready
    (answer t, t.pwm.mode) = (some (.ok, 83), .run) := by decide
theorem test_pwm_duty_full : ((did (.pwmDuty 10000) ready).pwm.mode, (did (.pwmDuty 10001) ready).pwm.mode) = (.run, .on) := by decide
/-- R200: the second byte of 20000. -/
theorem test_regrd : answer (did (.regrd 3) { ready with heater := { ready.heater with setpoint := 20000 } }) = some (.ok, 0x4E) := by
  decide
theorem test_regrd_alias : answer (did (.regrd 0x100) ready) = some (.invalidAddress, 0) := by decide
/-- R201: from 32, the second byte of 20000; and the upper bits of B ignored. -/
theorem test_regwr :
    (did (.regwr 3 0xFFFFFF4E) { ready with heater := { ready.heater with setpoint := 32 } }).heater.setpoint = 20000 := by decide
theorem test_regwr_read_only : (answer (did (.regwr 0 3) ready), (did (.regwr 0 3) ready).heater.state) = (some (.ok, 0), .off) := by
  decide
/-- R205. -/
theorem test_fldrd : answer (did (.fldrd 0x2B) ready) = some (.ok, 0xFFFFFE0C) := by decide
theorem test_fldrd_undefined : answer (did (.fldrd 0x07) ready) = some (.invalidField, 0) := by decide
/-- R206. -/
theorem test_cfgwr : (did (.pidCompute 20000 15000) (did (.cfgwr 0x39 400) ready)).pid.output = 400 := by decide
theorem test_cfgwr_not_cfg : answer (did (.cfgwr 0x10 2) ready) = some (.invalidField, 0) := by decide
/-- R99: the example of the assembler's syntax. -/
theorem test_encode_example : encode (.pidCompute 20000 15000) = 0x21_00004E20_00003A98 := by decide

/-- R17: the word presented at reset is the next step, whole: PWM_FREQ 1000. -/
theorem test_fetch_word :
    step (State.reset.withFetchWord 72 0x40_000003E8_00000000) = .next (did (.pwmFreq 1000) State.reset) := rfl
/-- R99, R100: a line of the assembler, and the expansion of REGWR32. -/
theorem test_assemble :
    assemble "PID_COMPUTE 200.00, 150.00 ; example" = some ⟨[.command 0x21_00004E20_00003A98], []⟩ := by decide
/-- R94: the assembler writes `B[31:8]` of REGWR as zero; a number past 8 bits gives its low byte (assumption log 24). -/
theorem test_assembleRegwrByte :
    assemble "REGWR 2, 0x1FF" = some ⟨[.command 0x51_00000002_000000FF], []⟩ ∧
      assemble "DISPATCH.W 2, -1" = some ⟨[.command 0x51_00000002_000000FF, .command 0x03_00000000_00000000], []⟩ := by decide
theorem test_regwr32 : regwr32 0x02 20000 = [.regwr 2 0x20, .regwr 3 0x4E, .regwr 4 0, .regwr 5 0] := by decide

/-! ## A state for the hypotheses of each statement -/

/-- O2, O5, O7: a word that carries an operation, next in the run, and another that differs in ignored bits. -/
theorem test_witness_decode :
    decode 0x50_00000002_0000FFFF = .instr (.regrd 2) ∧
      (0x50_00000002_0000FFFF : CmdWord) &&& (0xFF_00000000_00000000 ||| (Instr.regrd 2).format.operandMask) =
        0x50_00000002_00000000 &&& (0xFF_00000000_00000000 ||| (Instr.regrd 2).format.operandMask) ∧
      (0xABCDEF20 : U32).toNat % 256 = (0x20 : U32).toNat % 256 ∧
      ({ ready with inputs := [.command 0x50_00000002_0000FFFF] } : State).inputs = .command 0x50_00000002_0000FFFF :: [] := by
  decide
/-- O3, O11: the bytes at the ends of the illegal ranges, and an illegal word next in the run. -/
theorem test_witness_illegal :
    ([0x00, 0x04, 0x0F, 0x13, 0x1F, 0x22, 0x2F, 0x34, 0x3F, 0x42, 0x4F, 0x52, 0x5F, 0x62, 0xFF].all illegalByte = true) ∧
      ([0x01, 0x03, 0x10, 0x12, 0x20, 0x21, 0x30, 0x33, 0x40, 0x41, 0x50, 0x51, 0x60, 0x61].any illegalByte = false) ∧
      illegalByte (cmdOp 0x04_00000000_00000000).toNat = true ∧
      ({ ready with inputs := [.command 0x04_00000000_00000000] } : State).inputs = .command 0x04_00000000_00000000 :: [] := by
  decide
theorem test_witness_illegal_word : ∀ i, decode 0x04_00000000_00000000 ≠ .instr i := by
  intro i h
  have : decode 0x04_00000000_00000000 = .illegalOp 4 := by decide
  rw [this] at h; cases h
/-- O8, O9, O14, O16. -/
theorem test_witness_inputs :
    ({ ready with inputs := [.tick, .tick] } : State).inputs = List.replicate 2 .tick ++ [] ∧ ready.inputs = [] ∧
      ready.dev.tickFlag = false := by decide

/-- A serviced tick with the counters at the ends of their ranges. -/
def ticking (c100 c1 : U8) : State := { ready with dev := { ready.dev with tickFlag := true, cnt100ms := c100, cnt1s := c1 } }

/-- O15: each clause, at 2 and at 1. -/
theorem test_witness_poll :
    (∀ c ∈ [ticking 2 1, ticking 10 10, ticking 1 2, ticking 1 1], c.dev.tickFlag = true ∧ CountersInv c) ∧
      1 < (ticking 2 1).dev.cnt100ms.toNat ∧ (ticking 1 2).dev.cnt100ms.toNat = 1 ∧ 1 < (ticking 1 2).dev.cnt1s.toNat ∧
      (ticking 1 1).dev.cnt1s.toNat = 1 := by
  unfold CountersInv; decide
/-- O17: a state of the count, ten serviced ticks after a start, and a POLL next. -/
theorem test_witness_no_drift :
    let s := { ticking 10 9 with trace := List.replicate 10 .ms10 ++ [.ms100], inputs := [.command 0x03_00000000_00000000] }
    CountersInv s ∧ NoDrift 0 0 0 s ∧ ¬ NextIsDevinit s ∧ ∃ t, step s = .next t := by
  refine ⟨?_, ⟨10, 1, 0, ?_⟩, ?_, _, rfl⟩
  · unfold CountersInv; decide
  · unfold eventCount; decide
  · unfold NextIsDevinit; decide
/-- O19, O20, O54: a well-formed `CFG`, and frequencies that reach both clamps. -/
theorem test_witness_wf :
    ready.cfg.wellFormed = true ∧ (did (.pwmFreq 0) ready).pwm.top = 255 ∧ (did (.pwmFreq 100000) ready).pwm.top = 20 := by decide
/-- O21, O22: the percentages where the clauses meet. -/
theorem test_witness_duty :
    (0 : S32).toInt ≤ 0 ∧ 0 < (1 : S32).toInt ∧ (10000 : S32).toInt ≤ 10000 ∧ 10000 < (10001 : S32).toInt := by decide
/-- O25: each of the three reasons not to sample. -/
theorem test_witness_idle :
    ¬ Sampling State.reset.sensor ∧ ¬ Sampling (sampling 4 4 []).sensor ∧ ¬ Sampling (sampling 0 0 []).sensor ∧
      ¬ Sampling { ready.sensor with state := .shutdown } := by
  unfold Sampling; decide
/-- O26: the first sample of a period one LSB above the sentinel. -/
theorem test_witness_sun :
    let s := sampling 0 4 [550501]
    Sampling s.sensor ∧ Accepts s 0 ∧ s.cfg.snsSun.toInt < (sampleAnswer s 0).toInt := by
  unfold Sampling Accepts Rejected; decide
/-- O27: a rejected sample one LSB outside the threshold, then one at the threshold, in mid-period. -/
theorem test_witness_mid_period :
    let s := sampling 1 3 [15051, 15050]
    PeriodInv s ∧ Sampling s.sensor ∧ Accepts s 1 ∧ (sampleAnswer s 1).toInt ≤ s.cfg.snsSun.toInt ∧
      s.sensor.samples.toNat + 1 < s.sensor.spr.toNat := by
  unfold PeriodInv Sampling Accepts Rejected; decide
/-- O28: the last sample of a period, at the sentinel value; then with the mean at each threshold and one LSB past it. -/
theorem test_witness_completes :
    let s := sampling 0 1 [550500]
    let x := (sampling 0 1 []).sensor
    PeriodInv s ∧ Sampling s.sensor ∧ Accepts s 0 ∧ (sampleAnswer s 0).toInt ≤ s.cfg.snsSun.toInt ∧
      s.sensor.samples.toNat + 1 = s.sensor.spr.toNat ∧
      meanWith x 40001 > x.disconnectTemperature.toInt ∧ ¬ meanWith x 40000 > x.disconnectTemperature.toInt ∧
      meanWith x (BitVec.ofInt 32 (-501)) < x.nopowerTemperature.toInt ∧
      ¬ meanWith x (BitVec.ofInt 32 (-500)) < x.nopowerTemperature.toInt := by
  unfold PeriodInv Sampling Accepts Rejected; decide
/-- O29: one retry, both samples outside the threshold on either side. -/
theorem test_witness_exhausted :
    let s := sampling 1 3 [15051, 14949]
    Sampling s.sensor ∧ s.sensor.samples ≠ 0 ∧ ∀ k ≤ s.sensor.retries.toNat, Rejected s k := by
  unfold Sampling Rejected; decide
/-- O30: a period of two samples at the variance threshold, with their mean valid, above and below the thresholds. -/
theorem test_witness_full_period :
    let s := { sampling 0 2 [15000, 15050] with inputs := List.replicate 2 (.command 0x12_00000000_00000000) }
    (s.sensor.state = .hasNoData ∨ s.sensor.state = .hasData) ∧ s.sensor.samples = 0 ∧ 2 = s.sensor.spr.toNat ∧
      (∀ j < 2, (sampleAnswer s j).toInt ≤ s.cfg.snsSun.toInt) ∧
      (∀ j < 1, |(sampleAnswer s (j + 1)).toInt - (sampleAnswer s j).toInt| ≤ s.sensor.variance.toInt) ∧
      Int.tdiv ((List.range 2).map (fun j => (sampleAnswer s j).toInt)).sum 2 = 15025 ∧
      s.sensor.nopowerTemperature.toInt ≤ 15025 ∧ 15025 ≤ s.sensor.disconnectTemperature.toInt := by decide
theorem test_witness_full_period_low_high :
    Int.tdiv ((List.range 2).map (fun j => (sampleAnswer (sampling 0 2 [40000, 40002]) j).toInt)).sum 2 = 40001 ∧
      Int.tdiv ((List.range 2).map (fun j => (sampleAnswer (sampling 0 2 [0xFFFFFE0B, 0xFFFFFE0B]) j).toInt)).sum 2 = -501 := by decide
/-- O31, O45, O46, O57, O58: an operation with a next state, for each clause. -/
theorem test_witness_next :
    exec .snsInit ready = .next (did .snsInit ready) ∧ exec .snsCb (sampling 0 1 [15000]) = .next (did .snsCb (sampling 0 1 [15000])) ∧
      exec .htrOn (warm .shutdown 2500) = .next (did .htrOn (warm .shutdown 2500)) ∧
      exec .htrOff (warm .on 2500) = .next (did .htrOff (warm .on 2500)) ∧
      exec .htrCb (warm .heating 2500) = .next (did .htrCb (warm .heating 2500)) := ⟨rfl, rfl, rfl, rfl, rfl⟩
/-- O33: an error at the dead band and one past it. -/
theorem test_witness_dead_band :
    ((did (.pidCompute 10 0) ready).pid.integral, (did (.pidCompute 11 0) ready).pid.integral) = (0, 11) := by decide
/-- O34: bounds in order, equal, and the wrong way round. -/
theorem test_witness_bounds :
    ready.pid.outMin.toInt ≤ ready.pid.outMax.toInt ∧ State.reset.pid.outMin.toInt ≤ State.reset.pid.outMax.toInt ∧
      let s := did (.cfgwr 0x38 10001) ready
      s.pid.outMax.toInt < s.pid.outMin.toInt := by decide
/-- O35: the largest share of the integral that rounds to 0. -/
theorem test_witness_equilibrium :
    let s := { ready with pid := { ready.pid with ki := 27, integral := 37 } }
    s.pid.prevError = 0 ∧ 0 ≤ s.cfg.pidEpsilon.toInt ∧ |s.pid.ki.toInt * s.pid.integral.toInt| < 1000 ∧ s.pid.outMin.toInt ≤ 0 ∧
      0 ≤ s.pid.outMax.toInt := by decide
/-- O36: a change of the history in a regulating callback. -/
theorem test_witness_history :
    exec .htrCb (warm .heating 2500) = .next (did .htrCb (warm .heating 2500)) ∧
      (did .htrCb (warm .heating 2500)).pid.error ≠ (warm .heating 2500).pid.error := ⟨rfl, by decide⟩
/-- O40: each clause. -/
theorem test_witness_before_heating :
    State.reset.heater.state = .uninit ∧ ready.heater.state = .off ∧
      (let s := { warm .heating 2500 with sensor := ready.sensor }
       s.heater.state ≠ .uninit ∧ s.heater.state ≠ .off ∧ s.heater.state ≠ .shutdown ∧ s.sensor.state ≠ .hasData) ∧
      (warm .cooling 2500).heater.state = .cooling ∧ (warm .on 2500).heater.state = .on ∧ (warm .on 2500).sensor.state = .hasData := by
  decide

/-- A heating session at a temperature, with its timer about to reach `n` and its two timeouts. -/
def heatingAt (temperature : S32) (n ambient regulation : U32) : State :=
  { warm .heating temperature with
    heater :=
      { (warm .heating temperature).heater with
        regulationTimer := n - 1, ambientTimeout := ambient, regulationTimeout := regulation } }

/-- O41: the callback whose count is the timeout and the one before it, for each check. -/
theorem test_witness_heating :
    (heatingAt 3999 900 900 3000).heater.state = .heating ∧ (heatingAt 3999 900 900 3000).sensor.state = .hasData ∧
      (did .htrCb (heatingAt 3999 900 900 3000)).heater.code = .ambientTimedOut ∧
      (did .htrCb (heatingAt 3999 899 900 3000)).heater.code = .ok ∧ (did .htrCb (heatingAt 4000 900 900 3000)).heater.code = .ok ∧
      (did .htrCb (heatingAt 19999 3000 900 3000)).heater.code = .regulationTimedOut ∧
      (did .htrCb (heatingAt 20000 3000 900 3000)).heater.code = .ok ∧
      (did .htrCb (heatingAt 3999 3000 900 3000)).heater.code = .ambientTimedOut := by decide
/-- O42. -/
theorem test_witness_at_temperature :
    (warm .atTemperature 2500).heater.state = .atTemperature ∧ (warm .atTemperature 2500).sensor.state = .hasData := by decide

/-- O43: the states before and after the callbacks of a session whose ambient timeout is 1. -/
def coldBefore (k : Nat) : State :=
  if k = 0 then { warm .on 3999 with heater := { (warm .on 3999).heater with ambientTimeout := 1 } } else heatingAt 3999 1 1 3000
def coldAfter (k : Nat) : State := did .htrCb (coldBefore k)
theorem test_witness_ambient :
    (coldBefore 0).heater.state = .on ∧ (coldBefore 0).heater.ambientTimeout.toNat = 1 ∧
      (∀ k ≤ 1, (coldBefore k).sensor.state = .hasData ∧
        (coldBefore k).sensor.temperature.toInt < (coldBefore k).heater.ambientTemperature.toInt ∧
          1 ≤ (coldBefore k).heater.regulationTimeout.toNat) ∧
      (∀ k < 1, (coldBefore (k + 1)).heater.state = (coldAfter k).heater.state ∧
        (coldBefore (k + 1)).heater.regulationTimer = (coldAfter k).heater.regulationTimer ∧
          (coldBefore (k + 1)).heater.ambientTimeout = (coldAfter k).heater.ambientTimeout) := by decide
theorem test_witness_ambient_exec : ∀ k ≤ 1, exec .htrCb (coldBefore k) = .next (coldAfter k) := fun _ _ => rfl
/-- O44: a shut-down heater, and states with its recovered heater with data and without. -/
theorem test_witness_recovery :
    (warm .shutdown 2500).heater.state = .shutdown ∧
      (let t := did .htrOn (warm .shutdown 2500)
       (warm .on 2500).sensor.state = .hasData ∧ ({ warm .on 2500 with heater := t.heater } : State).heater = t.heater ∧
         ready.sensor.state ≠ .hasData ∧ ({ ready with heater := t.heater } : State).heater = t.heater) := by decide
/-- O47: a session that times out, an active heater without data, and a refused operation. -/
theorem test_witness_failure :
    exec .htrCb (heatingAt 3999 900 900 3000) = .next (did .htrCb (heatingAt 3999 900 900 3000)) ∧
      (heatingAt 3999 900 900 3000).heater.state ≠ .shutdown ∧
      (did .htrCb (heatingAt 3999 900 900 3000)).heater.state = .shutdown ∧
      ({ warm .on 2500 with sensor := ready.sensor } : State).heater.state = .on ∧ ready.sensor.state ≠ .hasData ∧
      (did (.regrd 24) ready).rsp = some ⟨.invalidAddress, 0⟩ := ⟨rfl, by decide, by decide, by decide, by decide, by decide⟩
/-- O48, O49: the addresses where the clauses meet. -/
theorem test_witness_addresses :
    (23 : U32).toNat < (registerFile ready).length ∧ 24 ≤ (24 : U32).toNat ∧
      [0x01, 0x02, 0x05, 0x06, 0x0B, 0x0C, 0x17, 0x18].map (fun a => (storedAddresses (.regwr a 0)).isEmpty) =
        [true, false, false, true, true, false, false, true] := by decide
/-- O50: two states that differ in what the host cannot see. -/
theorem test_witness_host :
    Instr.hostMayIssue (.regwr 2 1) = true ∧ ready ≠ { ready with pwm := { ready.pwm with mode := .on } } ∧
      registerFile ready = registerFile { ready with pwm := { ready.pwm with mode := .on } } ∧
      exec (.regwr 2 1) ready = .next (did (.regwr 2 1) ready) := ⟨rfl, by decide, by decide, rfl⟩
/-- O51, O52, O53: ids in and out of the tables, and the values where the U8 check turns. -/
theorem test_witness_ids :
    0x39 ∈ definedIds ∧ 0x07 ∉ definedIds ∧ 0x100 ∉ definedIds ∧ 0x10 ∉ cfgIds ∧ 0x39 ∈ cfgIds ∧
      (255 : U32).toNat ≤ 255 ∧ 255 < (256 : U32).toNat := by decide
/-- O55: a safe state of a session, in mid-period and heating, with a step to take. -/
theorem test_witness_safe :
    let s := { warm .heating 2500 with
               sensor := { (sampling 1 3 [15000]).sensor with state := .hasData }, inputs := [.command 0x33_00000000_00000000] }
    SafeState s ∧ ∃ t, step s = .next t := by
  refine ⟨?_, _, rfl⟩
  unfold SafeState CountersInv PeriodInv SensorCodeInv HeaterCodeInv HeaterReachable PidHistoryInv PwmTopInv
  decide
/-- O56: an address next to a stored one. -/
theorem test_witness_frame :
    exec (.regwr 2 0x20) ready = .next (did (.regwr 2 0x20) ready) ∧ 3 ∉ storedAddresses (.regwr 2 0x20) ∧
      2 ∈ storedAddresses (.regwr 2 0x20) := ⟨rfl, by decide, by decide⟩
/-- O59. -/
theorem test_witness_oblivious :
    Instr.fldrd 0x01 ≠ .devinit ∧ Instr.fldrd 0x01 ≠ .tickq ∧ Instr.fldrd 0x01 ≠ .poll ∧ Instr.fldrd 0x01 ≠ .fldrd 0x00 := by decide

end Sys2Proof.Tests
end

section
/-! PROOFS. The step and its outcomes (00_scope.md R8, R17): what the next element of the run decides, that every operation answers and
none stops the machine (60_exceptions.md R220), and O7, O9 and O12. -/

namespace Sys2Proof.Machine

/-! ## One step, by the next element of the run -/

theorem step_of_inputs_nil {s : State} (h : s.inputs = []) : step s = .next s := by
  simp [step, fetch, h]

theorem step_of_command_instr {s : State} {w : CmdWord} {rest : List Input} {i : Instr}
    (h : s.inputs = .command w :: rest) (hd : decode w = .instr i) : step s = exec i { s with inputs := rest } := by
  simp [step, fetch, h, hd]

/-- The bits of a command word, read as a row of the table, are that word (assumption log 15). -/
theorem tableWord_toNat (w : CmdWord) : tableWord 72 w.toNat = w := by
  rw [tableWord, Nat.mod_eq_of_lt w.isLt, BitVec.ofNat_toNat, BitVec.setWidth_eq]

theorem withFetchWord_toNat (s : State) (w : CmdWord) : s.withFetchWord 72 w.toNat = present w s := by
  rw [State.withFetchWord, tableWord_toNat]

/-- A word just presented is the next one executed, and its step consumes nothing else of the run. -/
theorem step_present {w : CmdWord} {i : Instr} (s : State) (hd : decode w = .instr i) : step (present w s) = exec i s :=
  step_of_command_instr (present_inputs w s) hd

/-! ## Every operation answers -/

/-- The outcome is a next state with a response in it: neither a fault nor a refusal (R220). -/
def Answers (o : Host.Outcome State Fault Refusal) : Prop :=
  ∃ (t : State) (st : Status) (d : U32), o = .next (t.respond st d)

theorem answers_next (t : State) (st : Status) (d : U32) : Answers (.next (t.respond st d)) := ⟨t, st, d, rfl⟩

/-- The two outcomes of HTR_ON (R171): the failure from `H_UNINIT` and the change of state. -/
theorem execHtrOn_answers (s : State) : Answers (execHtrOn s) := by
  unfold execHtrOn
  split
  · exact answers_next ..
  · exact answers_next ..

/-- The two outcomes of HTR_OFF (R172): the failure from `H_UNINIT` and the change of state. -/
theorem execHtrOff_answers (s : State) : Answers (execHtrOff s) := by
  unfold execHtrOff
  split
  · exact answers_next ..
  · exact answers_next ..

/-- An address past the register file has an answer of its own (R200). -/
theorem execRegrd_answers (addr : U32) (s : State) : Answers (execRegrd addr s) := by
  unfold execRegrd
  cases memRead addr.toNat s with
  | some _ => exact answers_next ..
  | none => exact answers_next ..

/-- An address past the register file has an answer of its own (R201). -/
theorem execRegwr_answers (addr b : U32) (s : State) : Answers (execRegwr addr b s) := by
  unfold execRegwr
  cases memWrite addr.toNat (dataByte b) s with
  | some _ => exact answers_next ..
  | none => exact answers_next ..

/-- An id that R59 does not define has an answer of its own (R205). -/
theorem execFldrd_answers (id : U32) (s : State) : Answers (execFldrd id s) := by
  unfold execFldrd
  cases fieldRow id with
  | some _ => exact answers_next ..
  | none => exact answers_next ..

/-- Both refusals of CFGWR, of the id and of the value, are answers (R206 to R208). -/
theorem execCfgwr_answers (id value : U32) (s : State) : Answers (execCfgwr id value s) := by
  unfold execCfgwr
  cases fieldRow id with
  | none => exact answers_next ..
  | some r =>
    dsimp only
    split
    · exact answers_next ..
    · exact answers_next ..

/-- R220: every operation, in every state, answers. -/
theorem exec_answers (i : Instr) (s : State) : Answers (exec i s) := by
  cases i with
  | htrOn => exact execHtrOn_answers s
  | htrOff => exact execHtrOff_answers s
  | regrd addr => exact execRegrd_answers addr s
  | regwr addr b => exact execRegwr_answers addr b s
  | fldrd id => exact execFldrd_answers id s
  | cfgwr id value => exact execCfgwr_answers id value s
  | devinit | tickq | poll | snsInit | snsStart | snsCb | pidInit | pidCompute _ _ | htrInit | htrCb | pwmFreq _
  | pwmDuty _ => exact answers_next ..

/-- R8: whatever is next in the run, and with nothing next, a step has a next state. -/
theorem step_completes (s : State) : ∃ t : State, step s = .next t := by
  obtain ⟨-, hidle⟩ | ⟨rest, -, htick⟩ | ⟨w, rest, i, -, -, hexec⟩ | ⟨w, rest, op, -, -, hillegal⟩ := step_cases s
  · exact ⟨_, hidle⟩
  · exact ⟨_, htick⟩
  · obtain ⟨t, st, d, ht⟩ := exec_answers i { s with inputs := rest }
    exact ⟨_, hexec.trans ht⟩
  · exact ⟨_, hillegal⟩

/-! ## The obligations -/

/-- Settles O12, by induction on the length of the run: each step has a next state, from which the rest of the run goes on. -/
theorem runsNeverStop : Obligations.RunsNeverStop := by
  intro k
  induction k with
  | zero => exact fun s => ⟨s, run_zero s⟩
  | succ k ih =>
    intro s
    obtain ⟨u, hstep⟩ := step_completes s
    obtain ⟨t, hrun⟩ := ih u
    exact ⟨t, (run_succ k hstep).trans hrun⟩

/-- Settles O7: the step on a command word that carries an operation, and the same step after the word's table bits are presented. -/
theorem stepRunsDecodedInstruction : Obligations.StepRunsDecodedInstruction := by
  refine ⟨fun s w rest i h hd => step_of_command_instr h hd, fun s w i hd => ?_⟩
  rw [withFetchWord_toNat]
  exact step_present s hd

/-- Settles O9: the step's case of an exhausted run. -/
theorem idleStep : Obligations.IdleStep := fun _ h => step_of_inputs_nil h

end Sys2Proof.Machine
end

section
/-! PROOFS. What an operation makes of the state, its response left aside: one function for the 18 operations, the frames of the
operations that the laws do not have yet, and one induction over the stages of POLL (10_state.md R66, 40_scheduler.md R112). -/

namespace Sys2Proof.Machine

/-! ## The state change of an operation -/

/-- The state change of REGWR: the write where the address is in the register file, otherwise none (R201). -/
def hostWrite (addr b : U32) (s : State) : State := (memWrite addr.toNat (dataByte b) s).getD s

/-- The state change of CFGWR: an accepted one configures the field, a refused one changes nothing (R206, R208). -/
def fieldWrite (id value : U32) (s : State) : State :=
  match fieldRow id with
  | some r => if r.cfg && valueFits r.type value then configure r.field value s else s
  | none => s

/-- The state change of an operation, all but its response. `exec_eq_effect` ties it to `exec`. -/
def effect (i : Instr) (s : State) : State :=
  match i with
  | .devinit => devInit s
  | .tickq => s
  | .poll => (poll s).2
  | .snsInit => snsInit s
  | .snsStart => snsStart s
  | .snsCb => snsCb s
  | .pidInit => pidInit s
  | .pidCompute setpoint measured => pidCompute setpoint measured s
  | .htrInit => htrInit s
  | .htrOn => htrOn s
  | .htrOff => htrOff s
  | .htrCb => htrCb s
  | .pwmFreq hz => pwmFreq hz s
  | .pwmDuty percent => pwmDuty (s32 percent) s
  | .regrd _ => s
  | .regwr addr b => hostWrite addr b s
  | .fldrd _ => s
  | .cfgwr id value => fieldWrite id value s

theorem htrOn_of_uninit {s : State} (h : s.heater.state = .uninit) : htrOn s = s := by
  simp [htrOn, h]

theorem htrOff_of_uninit {s : State} (h : s.heater.state = .uninit) : htrOff s = s := by
  simp [htrOff, h]

theorem execHtrOn_eq_effect (s : State) : ∃ st d, execHtrOn s = .next ((htrOn s).respond st d) := by
  unfold execHtrOn
  split
  · next h => exact ⟨_, _, by rw [htrOn_of_uninit h]⟩
  · exact ⟨_, _, rfl⟩

theorem execHtrOff_eq_effect (s : State) : ∃ st d, execHtrOff s = .next ((htrOff s).respond st d) := by
  unfold execHtrOff
  split
  · next h => exact ⟨_, _, by rw [htrOff_of_uninit h]⟩
  · exact ⟨_, _, rfl⟩

theorem execRegrd_eq_effect (addr : U32) (s : State) : ∃ st d, execRegrd addr s = .next (s.respond st d) := by
  unfold execRegrd
  cases memRead addr.toNat s with
  | some _ => exact ⟨_, _, rfl⟩
  | none => exact ⟨_, _, rfl⟩

theorem execRegwr_eq_effect (addr b : U32) (s : State) :
    ∃ st d, execRegwr addr b s = .next ((hostWrite addr b s).respond st d) := by
  unfold execRegwr hostWrite
  cases memWrite addr.toNat (dataByte b) s with
  | some _ => exact ⟨_, _, rfl⟩
  | none => exact ⟨_, _, rfl⟩

theorem execFldrd_eq_effect (id : U32) (s : State) : ∃ st d, execFldrd id s = .next (s.respond st d) := by
  unfold execFldrd
  cases fieldRow id with
  | some _ => exact ⟨_, _, rfl⟩
  | none => exact ⟨_, _, rfl⟩

theorem execCfgwr_eq_effect (id value : U32) (s : State) :
    ∃ st d, execCfgwr id value s = .next ((fieldWrite id value s).respond st d) := by
  unfold execCfgwr fieldWrite
  cases fieldRow id with
  | none => exact ⟨_, _, rfl⟩
  | some r =>
    dsimp only
    split
    · exact ⟨_, _, rfl⟩
    · exact ⟨_, _, rfl⟩

/-- Every operation is its state change and then its response (R66, R91). -/
theorem exec_eq_effect (i : Instr) (s : State) : ∃ st d, exec i s = .next ((effect i s).respond st d) := by
  cases i with
  | htrOn => exact execHtrOn_eq_effect s
  | htrOff => exact execHtrOff_eq_effect s
  | regrd addr => exact execRegrd_eq_effect addr s
  | regwr addr b => exact execRegwr_eq_effect addr b s
  | fldrd id => exact execFldrd_eq_effect id s
  | cfgwr id value => exact execCfgwr_eq_effect id value s
  | devinit | tickq | poll | snsInit | snsStart | snsCb | pidInit | pidCompute _ _ | htrInit | htrCb | pwmFreq _
  | pwmDuty _ => exact ⟨_, _, rfl⟩

/-- The next state of an operation is its state change with a response in it. -/
theorem eq_respond_effect {i : Instr} {s t : State} (h : exec i s = .next t) : ∃ st d, t = (effect i s).respond st d := by
  obtain ⟨st, d, he⟩ := exec_eq_effect i s
  rw [he] at h
  cases h
  exact ⟨st, d, rfl⟩

/-! ## Frames of the operations -/

/-- Closes a field of HTR_ON that no case of it changes. -/
theorem htrOn_field {α : Sort _} (f : State → α) (s : State) (hrecover : f (setHeaterState .on (htrInit s)) = f s)
    (hon : f (setHeaterState .on s) = f s) : f (htrOn s) = f s := by
  obtain ⟨-, h⟩ | ⟨-, h⟩ | ⟨-, h⟩ := htrOn_cases s
  · rw [h, hrecover]
  · rw [h, hon]
  · rw [h]

@[simp] theorem htrOn_cfg (s : State) : (htrOn s).cfg = s.cfg := htrOn_field State.cfg s rfl rfl
@[simp] theorem htrOn_dev (s : State) : (htrOn s).dev = s.dev := htrOn_field State.dev s rfl rfl
@[simp] theorem htrOn_pwmTop (s : State) : (htrOn s).pwm.top = s.pwm.top := htrOn_field (fun t => t.pwm.top) s rfl rfl
@[simp] theorem htrOn_setpoint (s : State) : (htrOn s).heater.setpoint = s.heater.setpoint :=
  htrOn_field (fun t => t.heater.setpoint) s rfl rfl
@[simp] theorem htrOn_sensor (s : State) : (htrOn s).sensor = s.sensor := htrOn_field State.sensor s rfl rfl
@[simp] theorem htrOn_pid (s : State) : (htrOn s).pid = s.pid := htrOn_field State.pid s rfl rfl
@[simp] theorem htrOn_inputs (s : State) : (htrOn s).inputs = s.inputs := htrOn_field State.inputs s rfl rfl
@[simp] theorem htrOn_sampleQueue (s : State) : (htrOn s).sampleQueue = s.sampleQueue :=
  htrOn_field State.sampleQueue s rfl rfl
@[simp] theorem htrOn_freeDraws (s : State) : (htrOn s).freeDraws = s.freeDraws := htrOn_field State.freeDraws s rfl rfl

/-- Only the recovery from `H_SHUTDOWN` does more than set the heater's state (R171). -/
theorem htrOn_of_ne_shutdown {s : State} (h : s.heater.state ≠ .shutdown) :
    htrOn s = setHeaterState .on s ∨ htrOn s = s := by
  obtain ⟨hs, -⟩ | ⟨-, hon⟩ | ⟨-, hsame⟩ := htrOn_cases s
  · exact absurd hs h
  · exact .inl hon
  · exact .inr hsame

/-- Closes a field of HTR_OFF that no case of it changes. -/
theorem htrOff_field {α : Sort _} (f : State → α) (s : State) (hoff : f (pwmDuty 0 (setHeaterState .off s)) = f s) :
    f (htrOff s) = f s := by
  obtain ⟨-, h⟩ | ⟨-, h⟩ := htrOff_cases s
  · rw [h, hoff]
  · rw [h]

@[simp] theorem htrOff_cfg (s : State) : (htrOff s).cfg = s.cfg := htrOff_field State.cfg s rfl
@[simp] theorem htrOff_dev (s : State) : (htrOff s).dev = s.dev := htrOff_field State.dev s rfl
@[simp] theorem htrOff_pwmTop (s : State) : (htrOff s).pwm.top = s.pwm.top := htrOff_field (fun t => t.pwm.top) s rfl
@[simp] theorem htrOff_setpoint (s : State) : (htrOff s).heater.setpoint = s.heater.setpoint :=
  htrOff_field (fun t => t.heater.setpoint) s rfl
@[simp] theorem htrOff_regulationTimer (s : State) : (htrOff s).heater.regulationTimer = s.heater.regulationTimer :=
  htrOff_field (fun t => t.heater.regulationTimer) s rfl
@[simp] theorem htrOff_sensor (s : State) : (htrOff s).sensor = s.sensor := htrOff_field State.sensor s rfl
@[simp] theorem htrOff_pid (s : State) : (htrOff s).pid = s.pid := htrOff_field State.pid s rfl
@[simp] theorem htrOff_inputs (s : State) : (htrOff s).inputs = s.inputs := htrOff_field State.inputs s rfl
@[simp] theorem htrOff_sampleQueue (s : State) : (htrOff s).sampleQueue = s.sampleQueue :=
  htrOff_field State.sampleQueue s rfl
@[simp] theorem htrOff_freeDraws (s : State) : (htrOff s).freeDraws = s.freeDraws := htrOff_field State.freeDraws s rfl

/-- All REGWR can change is the set-point and the three gains (R203). -/
theorem hostWrite_eq_withHostFields (addr b : U32) (s : State) :
    ∃ setpoint kp ki kd, hostWrite addr b s = withHostFields setpoint kp ki kd s := by
  unfold hostWrite
  cases h : memWrite addr.toNat (dataByte b) s with
  | none => exact ⟨s.heater.setpoint, s.pid.kp, s.pid.ki, s.pid.kd, rfl⟩
  | some t =>
    obtain rfl | ⟨v, rfl⟩ | ⟨v, rfl⟩ | ⟨v, rfl⟩ | ⟨v, rfl⟩ := memWrite_cases h
    · exact ⟨t.heater.setpoint, t.pid.kp, t.pid.ki, t.pid.kd, rfl⟩
    · exact ⟨v, s.pid.kp, s.pid.ki, s.pid.kd, rfl⟩
    · exact ⟨s.heater.setpoint, v, s.pid.ki, s.pid.kd, rfl⟩
    · exact ⟨s.heater.setpoint, s.pid.kp, v, s.pid.kd, rfl⟩
    · exact ⟨s.heater.setpoint, s.pid.kp, s.pid.ki, v, rfl⟩

/-- Closes a field of REGWR that the host may not write. -/
theorem hostWrite_field {α : Sort _} (f : State → α) (addr b : U32) (s : State)
    (h : ∀ setpoint kp ki kd, f (withHostFields setpoint kp ki kd s) = f s) : f (hostWrite addr b s) = f s := by
  obtain ⟨setpoint, kp, ki, kd, he⟩ := hostWrite_eq_withHostFields addr b s
  rw [he, h]

@[simp] theorem hostWrite_cfg (a b : U32) (s : State) : (hostWrite a b s).cfg = s.cfg :=
  hostWrite_field State.cfg a b s fun _ _ _ _ => rfl
@[simp] theorem hostWrite_dev (a b : U32) (s : State) : (hostWrite a b s).dev = s.dev :=
  hostWrite_field State.dev a b s fun _ _ _ _ => rfl
@[simp] theorem hostWrite_pwm (a b : U32) (s : State) : (hostWrite a b s).pwm = s.pwm :=
  hostWrite_field State.pwm a b s fun _ _ _ _ => rfl
@[simp] theorem hostWrite_regulationTimer (a b : U32) (s : State) :
    (hostWrite a b s).heater.regulationTimer = s.heater.regulationTimer :=
  hostWrite_field (fun t => t.heater.regulationTimer) a b s fun _ _ _ _ => rfl
@[simp] theorem hostWrite_sensor (a b : U32) (s : State) : (hostWrite a b s).sensor = s.sensor :=
  hostWrite_field State.sensor a b s fun _ _ _ _ => rfl
@[simp] theorem hostWrite_trace (a b : U32) (s : State) : (hostWrite a b s).trace = s.trace :=
  hostWrite_field State.trace a b s fun _ _ _ _ => rfl
@[simp] theorem hostWrite_inputs (a b : U32) (s : State) : (hostWrite a b s).inputs = s.inputs :=
  hostWrite_field State.inputs a b s fun _ _ _ _ => rfl
@[simp] theorem hostWrite_sampleQueue (a b : U32) (s : State) : (hostWrite a b s).sampleQueue = s.sampleQueue :=
  hostWrite_field State.sampleQueue a b s fun _ _ _ _ => rfl
@[simp] theorem hostWrite_freeDraws (a b : U32) (s : State) : (hostWrite a b s).freeDraws = s.freeDraws :=
  hostWrite_field State.freeDraws a b s fun _ _ _ _ => rfl

/-- What CFGWR can do: nothing, or configure the field of the id's row (R206). -/
theorem fieldWrite_cases (id v : U32) (s : State) :
    fieldWrite id v s = s ∨ ∃ r, fieldRow id = some r ∧ fieldWrite id v s = configure r.field v s := by
  unfold fieldWrite
  cases fieldRow id with
  | none => exact .inl rfl
  | some r =>
    dsimp only
    split
    · exact .inr ⟨r, rfl, rfl⟩
    · exact .inl rfl

/-- Closes a property of CFGWR: every configured field keeps it. -/
theorem fieldWrite_induction {P : State → Prop} (id v : U32) (s : State) (h : P s) (hc : ∀ f, P (configure f v s)) :
    P (fieldWrite id v s) := by
  obtain he | ⟨r, -, he⟩ := fieldWrite_cases id v s
  · rwa [he]
  · rw [he]; exact hc r.field

/-- The structures CFGWR can write: heater, sensor and PID (R206). -/
theorem configure_frame (f : Field) (v : U32) (s : State) :
    ∃ h x p, configure f v s = { s with heater := h, sensor := x, pid := p } := by
  obtain he | ⟨h, he, -⟩ | ⟨p, he, -⟩ | ⟨x, he, -⟩ := configure_cases f v s
  · exact ⟨s.heater, s.sensor, s.pid, he⟩
  · exact ⟨h, s.sensor, s.pid, he⟩
  · exact ⟨s.heater, s.sensor, p, he⟩
  · exact ⟨s.heater, x, s.pid, he⟩

/-- Closes a field of CFGWR outside heater, sensor and PID. -/
theorem fieldWrite_field {α : Sort _} (f : State → α) (id v : U32) (s : State)
    (hf : ∀ h x p, f { s with heater := h, sensor := x, pid := p } = f s) : f (fieldWrite id v s) = f s := by
  refine fieldWrite_induction (P := fun t => f t = f s) id v s rfl fun g => ?_
  obtain ⟨h, x, p, he⟩ := configure_frame g v s
  rw [he, hf]

@[simp] theorem fieldWrite_cfg (id v : U32) (s : State) : (fieldWrite id v s).cfg = s.cfg :=
  fieldWrite_field State.cfg id v s fun _ _ _ => rfl
@[simp] theorem fieldWrite_dev (id v : U32) (s : State) : (fieldWrite id v s).dev = s.dev :=
  fieldWrite_field State.dev id v s fun _ _ _ => rfl
@[simp] theorem fieldWrite_pwm (id v : U32) (s : State) : (fieldWrite id v s).pwm = s.pwm :=
  fieldWrite_field State.pwm id v s fun _ _ _ => rfl
@[simp] theorem fieldWrite_trace (id v : U32) (s : State) : (fieldWrite id v s).trace = s.trace :=
  fieldWrite_field State.trace id v s fun _ _ _ => rfl
@[simp] theorem fieldWrite_inputs (id v : U32) (s : State) : (fieldWrite id v s).inputs = s.inputs :=
  fieldWrite_field State.inputs id v s fun _ _ _ => rfl
@[simp] theorem fieldWrite_sampleQueue (id v : U32) (s : State) : (fieldWrite id v s).sampleQueue = s.sampleQueue :=
  fieldWrite_field State.sampleQueue id v s fun _ _ _ => rfl
@[simp] theorem fieldWrite_freeDraws (id v : U32) (s : State) : (fieldWrite id v s).freeDraws = s.freeDraws :=
  fieldWrite_field State.freeDraws id v s fun _ _ _ => rfl

/-- No cfg field is the regulation timer (R206). -/
@[simp] theorem fieldWrite_regulationTimer (id v : U32) (s : State) :
    (fieldWrite id v s).heater.regulationTimer = s.heater.regulationTimer := by
  refine fieldWrite_induction (P := fun t => t.heater.regulationTimer = s.heater.regulationTimer) id v s rfl fun f => ?_
  obtain he | ⟨h, he, -, -, -, htimer⟩ | ⟨p, he, -⟩ | ⟨x, he, -⟩ := configure_cases f v s
  · rw [he]
  · rw [he]; exact htimer
  · rw [he]
  · rw [he]

/-! ## POLL, stage by stage -/

/-- What every stage of POLL keeps, POLL keeps (R112 to R115). A counter is written with a value of at least 1,
and at most 10 unless the counter it comes from was larger. -/
theorem poll_induction {P : State → Prop} {s : State} (h : P s) (hclear : ∀ t, P t → P (clearTick t))
    (hemit : ∀ e t, P t → P (t.emit e)) (hsns : ∀ t, P t → P (snsCb t)) (hhtr : ∀ t, P t → P (htrCb t))
    (h100 : ∀ c t, 1 ≤ c.toNat → c.toNat ≤ max 10 s.dev.cnt100ms.toNat → P t → P (setCnt100ms c t))
    (h1 : ∀ c t, 1 ≤ c.toNat → c.toNat ≤ max 10 s.dev.cnt1s.toNat → P t → P (setCnt1s c t)) : P (poll s).2 := by
  have h10ms : P (after10ms s) := hsns _ (hemit _ _ (hclear _ h))
  have h100ms : P (after100ms s) := hhtr _ (hemit _ _ (h100 10 _ (by decide) (le_max_left _ _) h10ms))
  obtain ⟨-, hp⟩ | ⟨-, ⟨hc, hp⟩ | ⟨-, ⟨hc, hp⟩ | ⟨-, hp⟩⟩⟩ := poll_cases s
  · rwa [hp]
  · rw [hp]
    have hdec := dec_toNat s.dev.cnt100ms (by omega)
    exact h100 _ _ (by omega) (by omega) h10ms
  · rw [hp]
    have hdec := dec_toNat s.dev.cnt1s (by omega)
    exact h1 _ _ (by omega) (by omega) h100ms
  · rw [hp]
    exact hemit _ _ (h1 10 _ (by decide) (le_max_left _ _) h100ms)

/-- Closes a field of POLL that no stage of it changes. -/
theorem poll_field {α : Sort _} (f : State → α) (s : State) (hclear : ∀ t, f (clearTick t) = f t)
    (hemit : ∀ e t, f (t.emit e) = f t) (hsns : ∀ t, f (snsCb t) = f t) (hhtr : ∀ t, f (htrCb t) = f t)
    (h100 : ∀ c t, f (setCnt100ms c t) = f t) (h1 : ∀ c t, f (setCnt1s c t) = f t) : f (poll s).2 = f s :=
  poll_induction (P := fun t => f t = f s) rfl (fun t => (hclear t).trans) (fun e t => (hemit e t).trans)
    (fun t => (hsns t).trans) (fun t => (hhtr t).trans) (fun c t _ _ => (h100 c t).trans) (fun c t _ _ => (h1 c t).trans)

@[simp] theorem poll_cfg (s : State) : (poll s).2.cfg = s.cfg :=
  poll_field State.cfg s (fun _ => rfl) (fun _ _ => rfl) snsCb_cfg htrCb_cfg (fun _ _ => rfl) (fun _ _ => rfl)
@[simp] theorem poll_inputs (s : State) : (poll s).2.inputs = s.inputs :=
  poll_field State.inputs s (fun _ => rfl) (fun _ _ => rfl) snsCb_inputs htrCb_inputs (fun _ _ => rfl) (fun _ _ => rfl)
@[simp] theorem poll_pwmFreq (s : State) : (poll s).2.dev.pwmFreq = s.dev.pwmFreq :=
  poll_field (fun t => t.dev.pwmFreq) s (fun _ => rfl) (fun _ _ => rfl) (fun t => by rw [snsCb_dev])
    (fun t => by rw [htrCb_dev]) (fun _ _ => rfl) (fun _ _ => rfl)
@[simp] theorem poll_pwmTop (s : State) : (poll s).2.pwm.top = s.pwm.top :=
  poll_field (fun t => t.pwm.top) s (fun _ => rfl) (fun _ _ => rfl) (fun t => by rw [snsCb_pwm]) htrCb_pwmTop
    (fun _ _ => rfl) (fun _ _ => rfl)
@[simp] theorem poll_setpoint (s : State) : (poll s).2.heater.setpoint = s.heater.setpoint :=
  poll_field (fun t => t.heater.setpoint) s (fun _ => rfl) (fun _ _ => rfl) (fun t => by rw [snsCb_heater]) htrCb_setpoint
    (fun _ _ => rfl) (fun _ _ => rfl)

/-- Of the heater, POLL does no more than one HTR_CB (R115). -/
theorem poll_heater (s : State) :
    (poll s).2.heater = s.heater ∨ ∃ u : State, u.heater = s.heater ∧ (poll s).2.heater = (htrCb u).heater := by
  have h100ms : ∃ u : State, u.heater = s.heater ∧ (after100ms s).heater = (htrCb u).heater :=
    ⟨(setCnt100ms 10 (after10ms s)).emit .ms100, by simp, rfl⟩
  obtain ⟨-, hp⟩ | ⟨-, ⟨-, hp⟩ | ⟨-, ⟨-, hp⟩ | ⟨-, hp⟩⟩⟩ := poll_cases s
  · exact .inl (by rw [hp])
  · exact .inl (by rw [hp]; simp)
  · exact .inr (by rw [hp]; exact h100ms)
  · exact .inr (by rw [hp]; exact h100ms)

end Sys2Proof.Machine
end

section
/-! PROOFS. The invariant of the block, kept by every step (10_state.md R23, R24, R26, R45, R60, 60_exceptions.md R222): O55. The
invariant is taken apart by the structure it speaks of, and each operation keeps each part. -/

namespace Sys2Proof.Machine

/-! ## The invariant by structure -/

/-- The device's part: `CountersInv`. -/
def DeviceSafe (d : Device) : Prop :=
  1 ≤ d.cnt100ms.toNat ∧ d.cnt100ms.toNat ≤ 10 ∧ 1 ≤ d.cnt1s.toNat ∧ d.cnt1s.toNat ≤ 10

/-- The period's part of the sensor: `PeriodInv`. -/
def PeriodSafe (x : Sensor) : Prop :=
  x.samples.toNat ≤ x.spr.toNat ∧
    (x.samples.toNat ≠ 0 →
      -((x.samples.toNat : Int) * 2147483648) ≤ x.accumulator.toInt ∧
        x.accumulator.toInt ≤ (x.samples.toNat : Int) * 2147483647)

/-- The diagnostic's part of the sensor: `SensorCodeInv`. -/
def DiagnosticSafe (x : Sensor) : Prop :=
  (x.state = .shutdown ↔ x.code = .badReadings) ∧ (x.state = .hasData → x.code = .ok) ∧ (x.state = .uninit → x.code = .ok)

/-- The heater's part: `HeaterCodeInv` and `HeaterReachable`. -/
def HeaterSafe (h : Heater) : Prop :=
  (h.state = .shutdown ↔ h.code ≠ .ok) ∧ h.state ≠ .atTemperature ∧ h.state ≠ .cooling

/-- The limiter's part: `PwmTopInv`. -/
def TopSafe (c : Cfg) (top : U32) : Prop :=
  top = 0 ∨ (c.pwmMinRes.toNat ≤ top.toNat ∧ top.toNat ≤ c.pwmMaxRes.toNat)

/-- The parts together are the invariant. -/
theorem safeState_iff (s : State) :
    SafeState s ↔
      s.cfg.wellFormed = true ∧ DeviceSafe s.dev ∧ (PeriodSafe s.sensor ∧ DiagnosticSafe s.sensor) ∧ HeaterSafe s.heater ∧
        s.pid.prevError = s.pid.error ∧ TopSafe s.cfg s.pwm.top := by
  constructor
  · rintro ⟨hwf, hdev, hperiod, hdiag, hcode, hreach, hpid, htop⟩
    exact ⟨hwf, hdev, ⟨hperiod, hdiag⟩, ⟨hcode, hreach⟩, hpid, htop⟩
  · rintro ⟨hwf, hdev, ⟨hperiod, hdiag⟩, ⟨hcode, hreach⟩, hpid, htop⟩
    exact ⟨hwf, hdev, hperiod, hdiag, hcode, hreach, hpid, htop⟩

/-! ## The sensor's part -/

/-- With no sample in the period there is nothing to say of the sum. -/
theorem periodSafe_of_samples_eq_zero {x : Sensor} (h : x.samples = 0) : PeriodSafe x := by
  simp [PeriodSafe, h]

theorem sensorInitial_safe (c : Cfg) : PeriodSafe (sensorInitial c) ∧ DiagnosticSafe (sensorInitial c) :=
  ⟨periodSafe_of_samples_eq_zero rfl, by simp [DiagnosticSafe, sensorInitial]⟩

theorem restart_safe {x : Sensor} (h : DiagnosticSafe x) :
    PeriodSafe { x with samples := 0 } ∧ DiagnosticSafe { x with samples := 0 } :=
  ⟨periodSafe_of_samples_eq_zero rfl, h⟩

/-- The first sample of a period is the sum (R135). -/
theorem accumulate_accumulator_first (v : S32) {x : Sensor} (h : x.samples = 0) :
    (accumulate v x).accumulator.toInt = s32 v := by
  have hv := s32_range v
  simp only [accumulate, if_pos h]
  exact s40_toInt (by omega) (by omega)

/-- The other samples are added exactly: at most 255 S32 values fit the S40 accumulator (R45, R135). -/
theorem accumulate_accumulator_next (v : S32) {x : Sensor} (h : x.samples ≠ 0) (hx : PeriodSafe x)
    (hlt : x.samples.toNat < x.spr.toNat) : (accumulate v x).accumulator.toInt = x.accumulator.toInt + s32 v := by
  have hv := s32_range v
  have hspr := x.spr.isLt
  have h0 : x.samples.toNat ≠ 0 := fun h0 => h (BitVec.eq_of_toNat_eq h0)
  obtain ⟨hlo, hhi⟩ := hx.2 h0
  simp only [accumulate, if_neg h]
  exact s40_toInt (by omega) (by omega)

theorem accumulate_periodSafe (v : S32) {x : Sensor} (hx : PeriodSafe x) (hlt : x.samples.toNat < x.spr.toNat) :
    PeriodSafe (accumulate v x) := by
  have hv := s32_range v
  have hcount := accumulate_samples v x hlt
  refine ⟨by rw [hcount]; exact hlt, fun _ => ?_⟩
  rw [hcount]
  by_cases h : x.samples = 0
  · have h0 : x.samples.toNat = 0 := by simp [h]
    rw [accumulate_accumulator_first v h, h0]
    omega
  · have h0 : x.samples.toNat ≠ 0 := fun h0 => h (BitVec.eq_of_toNat_eq h0)
    obtain ⟨hlo, hhi⟩ := hx.2 h0
    rw [accumulate_accumulator_next v h hx hlt]
    push_cast
    omega

theorem snsShutdown_diagnosticSafe (x : Sensor) : DiagnosticSafe (snsShutdown x) := by
  simp [DiagnosticSafe, snsShutdown]

/-- Each outcome of a completed period has its own diagnostic, none of them that of `S_SHUTDOWN` (R139). -/
theorem complete_diagnosticSafe (x : Sensor) : DiagnosticSafe (complete x) := by
  have hstate : (complete x).state = (classify x (periodMean x)).1 := rfl
  have hcode : (complete x).code = (classify x (periodMean x)).2 := rfl
  unfold DiagnosticSafe
  rw [hstate, hcode]
  obtain ⟨-, h⟩ | ⟨-, -, h⟩ | ⟨-, -, h⟩ := classify_cases x (periodMean x)
  · simp [h]
  · simp [h]
  · simp [h]

theorem takeSample_safe (c : Cfg) (v : S32) {x : Sensor} (hx : PeriodSafe x) (hd : DiagnosticSafe x)
    (hlt : x.samples.toNat < x.spr.toNat) : PeriodSafe (takeSample c v x) ∧ DiagnosticSafe (takeSample c v x) := by
  obtain ⟨-, h⟩ | ⟨-, -, h⟩ | ⟨-, -, h⟩ := takeSample_cases c v x
  · rw [h]; exact ⟨hx, snsShutdown_diagnosticSafe x⟩
  · rw [h]; exact ⟨accumulate_periodSafe v hx hlt, hd⟩
  · rw [h]; exact ⟨accumulate_periodSafe v hx hlt, complete_diagnosticSafe _⟩

theorem snsCb_sensor_safe {s : State} (hx : PeriodSafe s.sensor) (hd : DiagnosticSafe s.sensor) :
    PeriodSafe (snsCb s).sensor ∧ DiagnosticSafe (snsCb s).sensor := by
  obtain ⟨-, h⟩ | ⟨hidle, h | ⟨v, h⟩⟩ := snsCb_sensor s
  · rw [h]; exact ⟨hx, hd⟩
  · rw [h]; exact ⟨hx, snsShutdown_diagnosticSafe s.sensor⟩
  · obtain ⟨-, -, hlt⟩ := (snsIdle_eq_false s.sensor).1 hidle
    rw [h]; exact takeSample_safe s.cfg v hx hd hlt

/-! ## The heater's part -/

theorem htrCb_heater_safe {s : State} (h : HeaterSafe s.heater) : HeaterSafe (htrCb s).heater := by
  obtain ⟨hcode, hat, hcool⟩ := h
  obtain ⟨-, he⟩ | ⟨-, ⟨-, he⟩ | ⟨-, ⟨hs, -⟩ | ⟨hs, he⟩ | ⟨hs, ⟨-, he⟩ | ⟨-, -, he⟩ | ⟨-, -, he⟩⟩ | ⟨hs, -⟩⟩⟩ := htrCb_cases s
  · rw [he]; exact ⟨hcode, hat, hcool⟩
  · rw [he]; exact ⟨hcode, hat, hcool⟩
  · exact absurd hs hcool
  · have hok : s.heater.code = .ok := by simpa [hs] using hcode
    rw [he]; simp [HeaterSafe, withReading, hok]
  · rw [he]; simp [HeaterSafe, heaterShutdown]
  · rw [he]; simp [HeaterSafe, heaterShutdown]
  · rw [he]; exact ⟨hcode, hat, hcool⟩
  · exact absurd hs hat

theorem htrOn_heater_safe {s : State} (h : HeaterSafe s.heater) : HeaterSafe (htrOn s).heater := by
  obtain ⟨hcode, hat, hcool⟩ := h
  obtain ⟨-, he⟩ | ⟨hs | hs, he⟩ | ⟨-, he⟩ := htrOn_cases s
  · rw [he]; simp [HeaterSafe, heaterInitial]
  · have hok : s.heater.code = .ok := by simpa [hs] using hcode
    rw [he]; simp [HeaterSafe, hok]
  · exact absurd hs hcool
  · rw [he]; exact ⟨hcode, hat, hcool⟩

theorem htrOff_heater_safe {s : State} (h : HeaterSafe s.heater) : HeaterSafe (htrOff s).heater := by
  obtain ⟨hcode, hat, hcool⟩ := h
  obtain ⟨hs, he⟩ | ⟨-, he⟩ := htrOff_cases s
  · have hok : s.heater.code = .ok := by
      have hne : s.heater.state ≠ .shutdown := by
        obtain hs | hs | hs := hs <;> simp [hs]
      simpa [hne] using hcode
    rw [he]; simp [HeaterSafe, hok]
  · rw [he]; exact ⟨hcode, hat, hcool⟩

theorem heaterInitial_safe (c : Cfg) (h : Heater) : HeaterSafe (heaterInitial c h) := by
  simp [HeaterSafe, heaterInitial]

/-! ## Each operation keeps the invariant -/

theorem snsInit_safe {s : State} (h : SafeState s) : SafeState (snsInit s) := by
  rw [safeState_iff] at h ⊢
  obtain ⟨hwf, hdev, -, hheater, hpid, htop⟩ := h
  exact ⟨hwf, hdev, sensorInitial_safe s.cfg, hheater, hpid, htop⟩

theorem snsStart_safe {s : State} (h : SafeState s) : SafeState (snsStart s) := by
  rw [safeState_iff] at h ⊢
  obtain ⟨hwf, hdev, ⟨-, hdiag⟩, hheater, hpid, htop⟩ := h
  exact ⟨hwf, hdev, restart_safe hdiag, hheater, hpid, htop⟩

theorem snsCb_safe {s : State} (h : SafeState s) : SafeState (snsCb s) := by
  rw [safeState_iff] at h ⊢
  obtain ⟨hwf, hdev, ⟨hperiod, hdiag⟩, hheater, hpid, htop⟩ := h
  rw [snsCb_cfg, snsCb_dev, snsCb_heater, snsCb_pid, snsCb_pwm]
  exact ⟨hwf, hdev, snsCb_sensor_safe hperiod hdiag, hheater, hpid, htop⟩

theorem pidInit_safe {s : State} (h : SafeState s) : SafeState (pidInit s) := by
  rw [safeState_iff] at h ⊢
  obtain ⟨hwf, hdev, hsensor, hheater, -, htop⟩ := h
  exact ⟨hwf, hdev, hsensor, hheater, rfl, htop⟩

/-- PID_COMPUTE makes the error the previous one (R157). -/
theorem pidCompute_safe (a b : S32) {s : State} (h : SafeState s) : SafeState (pidCompute a b s) := by
  rw [safeState_iff] at h ⊢
  obtain ⟨hwf, hdev, hsensor, hheater, -, htop⟩ := h
  exact ⟨hwf, hdev, hsensor, hheater, rfl, htop⟩

theorem pwmFreq_safe (hz : U32) {s : State} (h : SafeState s) : SafeState (pwmFreq hz s) := by
  rw [safeState_iff] at h ⊢
  obtain ⟨hwf, hdev, hsensor, hheater, hpid, -⟩ := h
  exact ⟨hwf, hdev, hsensor, hheater, hpid, .inr (pwmTopFor_range hwf hz)⟩

/-- PWM_DUTY writes nothing the invariant speaks of. -/
theorem pwmDuty_safe (p : Int) {s : State} (h : SafeState s) : SafeState (pwmDuty p s) := h

theorem htrInit_safe {s : State} (h : SafeState s) : SafeState (htrInit s) := by
  rw [safeState_iff] at h ⊢
  obtain ⟨hwf, hdev, hsensor, -, hpid, htop⟩ := h
  exact ⟨hwf, hdev, hsensor, heaterInitial_safe s.cfg s.heater, hpid, htop⟩

theorem htrOn_safe {s : State} (h : SafeState s) : SafeState (htrOn s) := by
  rw [safeState_iff] at h ⊢
  obtain ⟨hwf, hdev, hsensor, hheater, hpid, htop⟩ := h
  rw [htrOn_cfg, htrOn_dev, htrOn_sensor, htrOn_pid, htrOn_pwmTop]
  exact ⟨hwf, hdev, hsensor, htrOn_heater_safe hheater, hpid, htop⟩

theorem htrOff_safe {s : State} (h : SafeState s) : SafeState (htrOff s) := by
  rw [safeState_iff] at h ⊢
  obtain ⟨hwf, hdev, hsensor, hheater, hpid, htop⟩ := h
  rw [htrOff_cfg, htrOff_dev, htrOff_sensor, htrOff_pid, htrOff_pwmTop]
  exact ⟨hwf, hdev, hsensor, htrOff_heater_safe hheater, hpid, htop⟩

/-- The error history agrees after a callback, whether or not it regulated (R157). -/
theorem htrCb_pidHistory {s : State} (h : s.pid.prevError = s.pid.error) : (htrCb s).pid.prevError = (htrCb s).pid.error := by
  obtain ⟨-, he⟩ | ⟨-, ⟨-, he⟩ | ⟨-, ⟨-, he⟩ | ⟨-, he⟩ | ⟨-, ⟨-, he⟩ | ⟨-, -, he⟩ | ⟨-, -, he⟩⟩ | ⟨-, he⟩⟩⟩ := htrCb_cases s
  · rwa [he]
  · rw [he]; exact h
  · rw [he]; exact h
  · rw [he]; exact h
  · rw [he]; exact h
  · rw [he]; exact h
  · rw [he]; rfl
  · rw [he]; rfl

theorem htrCb_safe {s : State} (h : SafeState s) : SafeState (htrCb s) := by
  rw [safeState_iff] at h ⊢
  obtain ⟨hwf, hdev, ⟨hperiod, hdiag⟩, hheater, hpid, htop⟩ := h
  rw [htrCb_cfg, htrCb_dev, htrCb_pwmTop]
  refine ⟨hwf, hdev, ?_, htrCb_heater_safe hheater, htrCb_pidHistory hpid, htop⟩
  obtain ⟨-, hx⟩ | ⟨-, hx⟩ := htrCb_sensor s
  · rw [hx]; exact ⟨hperiod, hdiag⟩
  · rw [hx]; exact restart_safe hdiag

theorem devReset_safe {s : State} (h : SafeState s) : SafeState (devReset s) := by
  rw [safeState_iff] at h ⊢
  obtain ⟨hwf, -, hrest⟩ := h
  exact ⟨hwf, by simp [DeviceSafe], hrest⟩

theorem devInit_safe {s : State} (h : SafeState s) : SafeState (devInit s) :=
  htrInit_safe (pidInit_safe (snsInit_safe (pwmDuty_safe 0 (pwmFreq_safe _ (devReset_safe h)))))

theorem setCnt100ms_safe {c : U8} {s : State} (h1 : 1 ≤ c.toNat) (h10 : c.toNat ≤ 10) (h : SafeState s) :
    SafeState (setCnt100ms c s) := by
  rw [safeState_iff] at h ⊢
  obtain ⟨hwf, ⟨-, -, hlo, hhi⟩, hrest⟩ := h
  exact ⟨hwf, ⟨h1, h10, hlo, hhi⟩, hrest⟩

theorem setCnt1s_safe {c : U8} {s : State} (h1 : 1 ≤ c.toNat) (h10 : c.toNat ≤ 10) (h : SafeState s) :
    SafeState (setCnt1s c s) := by
  rw [safeState_iff] at h ⊢
  obtain ⟨hwf, ⟨hlo, hhi, -⟩, hrest⟩ := h
  exact ⟨hwf, ⟨hlo, hhi, h1, h10⟩, hrest⟩

theorem poll_safe {s : State} (h : SafeState s) : SafeState (poll s).2 := by
  obtain ⟨-, ⟨-, h100, -, h1s⟩, -⟩ := (safeState_iff s).1 h
  exact poll_induction (P := SafeState) h (fun _ ht => ht) (fun _ _ ht => ht) (fun _ => snsCb_safe) (fun _ => htrCb_safe)
    (fun c t hlo hhi ht => setCnt100ms_safe hlo (by omega) ht) (fun c t hlo hhi ht => setCnt1s_safe hlo (by omega) ht)

/-- The set-point and the gains are outside the invariant (R203). -/
theorem hostWrite_safe (a b : U32) {s : State} (h : SafeState s) : SafeState (hostWrite a b s) := by
  obtain ⟨setpoint, kp, ki, kd, he⟩ := hostWrite_eq_withHostFields a b s
  rw [he]; exact h

/-- A new `sensor.spr` starts the period again, so that the samples stay within it (R207). -/
theorem configure_safe (f : Field) (v : U32) {s : State} (h : SafeState s) : SafeState (configure f v s) := by
  obtain he | ⟨y, he, hstate, hcode, -⟩ | ⟨p, he, herror, hprev, -⟩ | ⟨x, he, hstate, hcode, -, -, hacc, hcount⟩ :=
    configure_cases f v s
  · rwa [he]
  · rw [he]
    rw [safeState_iff] at h ⊢
    simpa only [HeaterSafe, hstate, hcode] using h
  · rw [he]
    rw [safeState_iff] at h ⊢
    simpa only [herror, hprev] using h
  · rw [he]
    rw [safeState_iff] at h ⊢
    obtain ⟨hwf, hdev, ⟨hperiod, hdiag⟩, hrest⟩ := h
    refine ⟨hwf, hdev, ⟨?_, by simpa only [DiagnosticSafe, hstate, hcode] using hdiag⟩, hrest⟩
    obtain hzero | ⟨hsamples, hspr⟩ := hcount
    · exact periodSafe_of_samples_eq_zero hzero
    · simpa only [PeriodSafe, hsamples, hspr, hacc] using hperiod

theorem fieldWrite_safe (id v : U32) {s : State} (h : SafeState s) : SafeState (fieldWrite id v s) :=
  fieldWrite_induction id v s h fun f => configure_safe f v h

theorem effect_safe (i : Instr) {s : State} (h : SafeState s) : SafeState (effect i s) := by
  cases i with
  | devinit => exact devInit_safe h
  | poll => exact poll_safe h
  | snsInit => exact snsInit_safe h
  | snsStart => exact snsStart_safe h
  | snsCb => exact snsCb_safe h
  | pidInit => exact pidInit_safe h
  | pidCompute a b => exact pidCompute_safe a b h
  | htrInit => exact htrInit_safe h
  | htrOn => exact htrOn_safe h
  | htrOff => exact htrOff_safe h
  | htrCb => exact htrCb_safe h
  | pwmFreq hz => exact pwmFreq_safe hz h
  | pwmDuty p => exact pwmDuty_safe (s32 p) h
  | regwr a b => exact hostWrite_safe a b h
  | cfgwr id v => exact fieldWrite_safe id v h
  | tickq | regrd _ | fldrd _ => exact h

theorem exec_safe {i : Instr} {s t : State} (h : SafeState s) (he : exec i s = .next t) : SafeState t := by
  obtain ⟨st, d, rfl⟩ := eq_respond_effect he
  exact effect_safe i h

/-- Settles O55, by what is next in the run; taking it from the run, a TICK and an illegal command word touch nothing the invariant
speaks of, and an operation keeps it by `exec_safe`. -/
theorem stepKeepsSafeState : Obligations.StepKeepsSafeState := by
  intro s t h hstep
  obtain ⟨-, hidle⟩ | ⟨rest, -, htick⟩ | ⟨w, rest, i, -, -, hexec⟩ | ⟨w, rest, op, -, -, hillegal⟩ := step_cases s
  · rw [hidle] at hstep; cases hstep; exact h
  · rw [htick] at hstep; cases hstep; exact h
  · rw [hexec] at hstep
    have hrest : SafeState { s with inputs := rest } := h
    exact exec_safe hrest hstep
  · rw [hillegal] at hstep; cases hstep; exact h

end Sys2Proof.Machine
end

section
/-! PROOFS. Which operation may change which field, and the event trace (10_state.md R62, R66): O46, O57 and O58. -/

namespace Sys2Proof.Machine

/-! ## Owners of the fields -/

/-- No operation writes CFG (00_scope.md R9). -/
@[simp] theorem effect_cfg (i : Instr) (s : State) : (effect i s).cfg = s.cfg := by
  cases i with
  | poll => exact poll_cfg s
  | snsCb => exact snsCb_cfg s
  | htrOn => exact htrOn_cfg s
  | htrOff => exact htrOff_cfg s
  | htrCb => exact htrCb_cfg s
  | regwr a b => exact hostWrite_cfg a b s
  | cfgwr id v => exact fieldWrite_cfg id v s
  | devinit | tickq | snsInit | snsStart | pidInit | pidCompute _ _ | htrInit | pwmFreq _ | pwmDuty _ | regrd _
  | fldrd _ => rfl

/-- An operation consumes nothing of the run: its command word is gone before (R17). -/
@[simp] theorem effect_inputs (i : Instr) (s : State) : (effect i s).inputs = s.inputs := by
  cases i with
  | poll => exact poll_inputs s
  | snsCb => exact snsCb_inputs s
  | htrOn => exact htrOn_inputs s
  | htrOff => exact htrOff_inputs s
  | htrCb => exact htrCb_inputs s
  | regwr a b => exact hostWrite_inputs a b s
  | cfgwr id v => exact fieldWrite_inputs id v s
  | devinit | tickq | snsInit | snsStart | pidInit | pidCompute _ _ | htrInit | pwmFreq _ | pwmDuty _ | regrd _
  | fldrd _ => rfl

/-- Of the device structure, every operation but DEVINIT and POLL leaves all but the effective frequency (R22 to R24). -/
theorem effect_dev (i : Instr) (s : State) :
    i = .devinit ∨ i = .poll ∨ (effect i s).dev = { s.dev with pwmFreq := (effect i s).dev.pwmFreq } := by
  cases i with
  | devinit => exact .inl rfl
  | poll => exact .inr (.inl rfl)
  | snsCb | htrOn | htrOff | htrCb | regwr _ _ | cfgwr _ _ => simp [effect]
  | tickq | snsInit | snsStart | pidInit | pidCompute _ _ | htrInit | pwmFreq _ | pwmDuty _ | regrd _
  | fldrd _ => exact .inr (.inr rfl)

/-- The tick flag and the two counters are moved by DEVINIT and POLL only (R22 to R24). -/
theorem effect_counters_owner (i : Instr) (s : State) (h : (effect i s).dev.tickFlag ≠ s.dev.tickFlag ∨
    (effect i s).dev.cnt100ms ≠ s.dev.cnt100ms ∨ (effect i s).dev.cnt1s ≠ s.dev.cnt1s) : i = .devinit ∨ i = .poll := by
  obtain hi | hi | hdev := effect_dev i s
  · exact .inl hi
  · exact .inr hi
  · rw [hdev] at h
    simp at h

/-- The frequency and the top-value are set by PWM_FREQ only, which DEVINIT performs (R25, R26). -/
theorem effect_frequency_owner (i : Instr) (s : State)
    (h : (effect i s).dev.pwmFreq ≠ s.dev.pwmFreq ∨ (effect i s).pwm.top ≠ s.pwm.top) :
    i = .devinit ∨ ∃ hz, i = .pwmFreq hz := by
  cases i with
  | devinit | pwmFreq _ => simp
  | htrCb => simp [effect, htrCb_pwmTop] at h
  | poll | snsCb | htrOn | htrOff | regwr _ _ | cfgwr _ _ | tickq | snsInit | snsStart | pidInit | pidCompute _ _
  | htrInit | pwmDuty _ | regrd _ | fldrd _ => simp [effect] at h

/-- The output is set by PWM_DUTY and by what performs it (R27, R28); HTR_ON does in its recovery only (R171). -/
theorem effect_output_owner (i : Instr) (s : State)
    (h : (effect i s).pwm.mode ≠ s.pwm.mode ∨ (effect i s).pwm.compare ≠ s.pwm.compare) :
    i = .devinit ∨ i = .poll ∨ i = .htrInit ∨ (i = .htrOn ∧ s.heater.state = .shutdown) ∨ i = .htrOff ∨ i = .htrCb ∨
      ∃ p, i = .pwmDuty p := by
  cases i with
  | devinit | poll | htrInit | htrOff | htrCb | pwmDuty _ => simp
  | htrOn =>
    by_cases hs : s.heater.state = .shutdown
    · simp [hs]
    · obtain he | he := htrOn_of_ne_shutdown hs <;> simp [effect, he] at h
  | snsCb | regwr _ _ | cfgwr _ _ | tickq | snsInit | snsStart | pidInit | pidCompute _ _ | pwmFreq _ | regrd _
  | fldrd _ => simp [effect] at h

/-- Of the cfg fields, only the set-point's writes the set-point (R206). -/
theorem configure_setpoint {f : Field} (hf : f ≠ .htrSetpoint) (v : U32) (s : State) :
    (configure f v s).heater.setpoint = s.heater.setpoint := by
  cases f with
  | htrSetpoint => exact absurd rfl hf
  | _ => rfl

/-- The set-point has one field id (R59). -/
theorem id_of_fieldRow_setpoint {id : U32} {r : FieldRow} (h : fieldRow id = some r) (hf : r.field = .htrSetpoint) :
    id = 0x13 := by
  have hid : ∀ r ∈ fieldTable, r.field = .htrSetpoint → r.id = 0x13 := by decide
  obtain ⟨hmem, heq⟩ := fieldRow_mem h
  exact BitVec.eq_of_toNat_eq (heq.symm.trans (hid r hmem hf))

theorem fieldWrite_setpoint {id : U32} (hid : id ≠ 0x13) (v : U32) (s : State) :
    (fieldWrite id v s).heater.setpoint = s.heater.setpoint := by
  obtain he | ⟨r, hr, he⟩ := fieldWrite_cases id v s
  · rw [he]
  · rw [he, configure_setpoint fun hf => hid (id_of_fieldRow_setpoint hr hf)]

/-- The set-point is written by REGWR and by CFGWR of its id only, not even by HTR_INIT (R32, R170). -/
theorem effect_setpoint_owner (i : Instr) (s : State) (h : (effect i s).heater.setpoint ≠ s.heater.setpoint) :
    (∃ a b, i = .regwr a b) ∨ ∃ v, i = .cfgwr 0x13 v := by
  cases i with
  | regwr _ _ => simp
  | cfgwr id v =>
    by_cases hid : id = 0x13
    · simp [hid]
    · exact absurd (fieldWrite_setpoint hid v s) h
  | poll => exact absurd (poll_setpoint s) h
  | snsCb => simp [effect] at h
  | htrOn => exact absurd (htrOn_setpoint s) h
  | htrOff => exact absurd (htrOff_setpoint s) h
  | htrCb => exact absurd (htrCb_setpoint s) h
  | devinit | tickq | snsInit | snsStart | pidInit | pidCompute _ _ | htrInit | pwmFreq _ | pwmDuty _ | regrd _
  | fldrd _ => exact absurd rfl h

/-- The sensor and PID operations, the limiter and the reads leave the heater (R66). -/
theorem effect_heater_owner (i : Instr) (s : State) (h : (effect i s).heater ≠ s.heater) :
    i = .devinit ∨ i = .poll ∨ i = .htrInit ∨ i = .htrOn ∨ i = .htrOff ∨ i = .htrCb ∨ (∃ a b, i = .regwr a b) ∨
      ∃ id v, i = .cfgwr id v := by
  cases i with
  | devinit | poll | htrInit | htrOn | htrOff | htrCb | regwr _ _ | cfgwr _ _ => simp
  | snsCb => exact absurd (snsCb_heater s) h
  | tickq | snsInit | snsStart | pidInit | pidCompute _ _ | pwmFreq _ | pwmDuty _ | regrd _ | fldrd _ => exact absurd rfl h

/-- Of the heater operations only HTR_CB writes the sensor, for the SNS_START in it (R66, R174). -/
theorem effect_sensor_owner (i : Instr) (s : State) (h : (effect i s).sensor ≠ s.sensor) :
    i = .devinit ∨ i = .poll ∨ i = .snsInit ∨ i = .snsStart ∨ i = .snsCb ∨ i = .htrCb ∨ ∃ id v, i = .cfgwr id v := by
  cases i with
  | devinit | poll | snsInit | snsStart | snsCb | htrCb | cfgwr _ _ => simp
  | htrOn => exact absurd (htrOn_sensor s) h
  | htrOff => exact absurd (htrOff_sensor s) h
  | regwr a b => exact absurd (hostWrite_sensor a b s) h
  | tickq | pidInit | pidCompute _ _ | htrInit | pwmFreq _ | pwmDuty _ | regrd _ | fldrd _ => exact absurd rfl h

/-- Of the heater operations only HTR_CB writes the PID, for the PID_COMPUTE in it (R66, R178). -/
theorem effect_pid_owner (i : Instr) (s : State) (h : (effect i s).pid ≠ s.pid) :
    i = .devinit ∨ i = .poll ∨ i = .pidInit ∨ i = .htrCb ∨ (∃ a b, i = .pidCompute a b) ∨ (∃ a b, i = .regwr a b) ∨
      ∃ id v, i = .cfgwr id v := by
  cases i with
  | devinit | poll | pidInit | htrCb | pidCompute _ _ | regwr _ _ | cfgwr _ _ => simp
  | snsCb => exact absurd (snsCb_pid s) h
  | htrOn => exact absurd (htrOn_pid s) h
  | htrOff => exact absurd (htrOff_pid s) h
  | tickq | snsInit | snsStart | htrInit | pwmFreq _ | pwmDuty _ | regrd _ | fldrd _ => exact absurd rfl h

/-- Samples are drawn by SNS_CB only, which POLL performs (R131, R134). -/
theorem effect_draws_owner (i : Instr) (s : State)
    (h : (effect i s).sampleQueue ≠ s.sampleQueue ∨ (effect i s).freeDraws ≠ s.freeDraws) : i = .poll ∨ i = .snsCb := by
  cases i with
  | poll | snsCb => simp
  | devinit | htrOn | htrOff | htrCb | regwr _ _ | cfgwr _ _ | tickq | snsInit | snsStart | pidInit | pidCompute _ _
  | htrInit | pwmFreq _ | pwmDuty _ | regrd _ | fldrd _ => simp [effect, devInit] at h

/-- Settles O57: the owners of the fields, one lemma each; the response is no field of the frame. -/
theorem ownershipFrame : Obligations.OwnershipFrame := by
  intro i s t h
  obtain ⟨st, d, rfl⟩ := eq_respond_effect h
  exact ⟨effect_cfg i s, effect_inputs i s, effect_counters_owner i s, effect_frequency_owner i s,
    effect_output_owner i s, effect_setpoint_owner i s, effect_heater_owner i s, effect_sensor_owner i s,
    effect_pid_owner i s, effect_draws_owner i s⟩

/-! ## The event trace -/

theorem snsCb_trace_isPrefix (s : State) : s.trace <+: (snsCb s).trace := by
  obtain ⟨l, h⟩ := snsCb_trace s
  exact ⟨_, h.symm⟩

theorem htrCb_trace_isPrefix (s : State) : s.trace <+: (htrCb s).trace := by
  obtain ⟨l, h⟩ := htrCb_trace s
  exact ⟨_, h.symm⟩

theorem poll_trace_isPrefix (s : State) : s.trace <+: (poll s).2.trace :=
  poll_induction (P := fun t => s.trace <+: t.trace) List.prefix_rfl (fun _ h => h)
    (fun _ _ h => h.trans (List.prefix_append _ _)) (fun _ h => h.trans (snsCb_trace_isPrefix _))
    (fun _ h => h.trans (htrCb_trace_isPrefix _)) (fun _ _ _ _ h => h) (fun _ _ _ _ h => h)

theorem htrOn_trace_isPrefix (s : State) : s.trace <+: (htrOn s).trace := by
  obtain ⟨-, h⟩ | ⟨-, h⟩ | ⟨-, h⟩ := htrOn_cases s
  · rw [h]; exact List.prefix_append _ _
  · rw [h]; exact List.prefix_rfl
  · rw [h]

theorem htrOff_trace_isPrefix (s : State) : s.trace <+: (htrOff s).trace := by
  obtain ⟨-, h⟩ | ⟨-, h⟩ := htrOff_cases s
  · rw [h]; exact List.prefix_append _ _
  · rw [h]

/-- DEVINIT performs one PWM_FREQ and two PWM_DUTY (R116). -/
theorem devInit_trace_isPrefix (s : State) : s.trace <+: (devInit s).trace := by
  simp [devInit]

/-- The trace is append-only (R62). -/
theorem effect_trace_isPrefix (i : Instr) (s : State) : s.trace <+: (effect i s).trace := by
  cases i with
  | devinit => exact devInit_trace_isPrefix s
  | poll => exact poll_trace_isPrefix s
  | snsCb => exact snsCb_trace_isPrefix s
  | htrOn => exact htrOn_trace_isPrefix s
  | htrOff => exact htrOff_trace_isPrefix s
  | htrCb => exact htrCb_trace_isPrefix s
  | regwr a b => simp [effect]
  | cfgwr id v => simp [effect]
  | htrInit | pwmFreq _ | pwmDuty _ => exact List.prefix_append _ _
  | tickq | snsInit | snsStart | pidInit | pidCompute _ _ | regrd _ | fldrd _ => exact List.prefix_rfl

/-- The operations without an `emit` in their rule leave the trace (R15, R62); HTR_ON emits in its recovery only. -/
theorem effect_trace_owner (i : Instr) (s : State) (h : (effect i s).trace ≠ s.trace) :
    i = .devinit ∨ i = .poll ∨ i = .snsCb ∨ i = .htrInit ∨ (i = .htrOn ∧ s.heater.state = .shutdown) ∨ i = .htrOff ∨
      i = .htrCb ∨ (∃ hz, i = .pwmFreq hz) ∨ ∃ p, i = .pwmDuty p := by
  cases i with
  | devinit | poll | snsCb | htrInit | htrOff | htrCb | pwmFreq _ | pwmDuty _ => simp
  | htrOn =>
    by_cases hs : s.heater.state = .shutdown
    · simp [hs]
    · obtain he | he := htrOn_of_ne_shutdown hs <;> simp [effect, he] at h
  | regwr a b => exact absurd (hostWrite_trace a b s) h
  | cfgwr id v => exact absurd (fieldWrite_trace id v s) h
  | tickq | snsInit | snsStart | pidInit | pidCompute _ _ | regrd _ | fldrd _ => exact absurd rfl h

/-- Settles O58: the trace of an operation extends the one before it, and the operations that emit are named. -/
theorem traceGrows : Obligations.TraceGrows := by
  intro i s t h
  obtain ⟨st, d, rfl⟩ := eq_respond_effect h
  obtain ⟨l, hl⟩ := effect_trace_isPrefix i s
  exact ⟨⟨l, hl.symm⟩, effect_trace_owner i s⟩

/-! ## The regulation timer -/

/-- What a callback can do to the regulation timer: leave it, zero it as the heater enters `H_HEATING`, or add 1 while heating. -/
def TimerCallback (before after : Heater) : Prop :=
  after.regulationTimer = before.regulationTimer ∨
    (after.regulationTimer = 0 ∧ before.state = .on ∧ after.state = .heating) ∨
      (after.regulationTimer.toNat = before.regulationTimer.toNat + 1 ∧ before.state = .heating)

/-- The saturated timer stays where it is; every other one goes up by 1 (R177 (a)). -/
theorem advanceTimer_cases (h : Heater) :
    (advanceTimer h).regulationTimer = h.regulationTimer ∨
      (advanceTimer h).regulationTimer.toNat = h.regulationTimer.toNat + 1 := by
  have hadv := advanceTimer_toNat h
  have hlt := h.regulationTimer.isLt
  by_cases hmax : h.regulationTimer.toNat = 4294967295
  · exact .inl (BitVec.eq_of_toNat_eq (by omega))
  · exact .inr (by omega)

/-- The three heating outcomes have the advanced timer in common (R177). -/
theorem timerCallback_of_heating {s t : State} (hs : s.heater.state = .heating)
    (ht : t.heater.regulationTimer = (advanceTimer s.heater).regulationTimer) : TimerCallback s.heater t.heater := by
  obtain hadv | hadv := advanceTimer_cases s.heater
  · exact .inl (ht.trans hadv)
  · exact .inr (.inr ⟨by rw [ht, hadv], hs⟩)

theorem htrCb_timer (s : State) : TimerCallback s.heater (htrCb s).heater := by
  obtain ⟨-, h⟩ | ⟨-, ⟨-, h⟩ | ⟨-, ⟨-, h⟩ | ⟨hon, h⟩ | ⟨hheat, ⟨-, h⟩ | ⟨-, -, h⟩ | ⟨-, -, h⟩⟩ | ⟨-, h⟩⟩⟩ := htrCb_cases s
  · exact .inl (by rw [h])
  · exact .inl (by rw [h]; rfl)
  · exact .inl (by rw [h]; rfl)
  · exact .inr (.inl ⟨by rw [h], hon, by rw [h]⟩)
  · exact timerCallback_of_heating hheat (by rw [h]; rfl)
  · exact timerCallback_of_heating hheat (by rw [h]; rfl)
  · exact timerCallback_of_heating hheat (by rw [h]; rfl)
  · exact .inl (by rw [h]; rfl)

theorem poll_timer (s : State) : TimerCallback s.heater (poll s).2.heater := by
  obtain h | ⟨u, hu, h⟩ := poll_heater s
  · exact .inl (by rw [h])
  · rw [h, ← hu]; exact htrCb_timer u

/-- The recovery performs HTR_INIT, the other cases of HTR_ON keep the timer (R171). -/
theorem htrOn_timer (s : State) :
    (htrOn s).heater.regulationTimer = s.heater.regulationTimer ∨
      ((htrOn s).heater.regulationTimer = 0 ∧ s.heater.state = .shutdown) := by
  obtain ⟨hs, h⟩ | ⟨-, h⟩ | ⟨-, h⟩ := htrOn_cases s
  · exact .inr ⟨by rw [h]; rfl, hs⟩
  · exact .inl (by rw [h]; rfl)
  · exact .inl (by rw [h])

/-- Settles O46: the callbacks move the timer as `TimerCallback` says, HTR_INIT and what performs it zero it. -/
theorem regulationTimerOwners : Obligations.RegulationTimerOwners := by
  intro i s t h
  obtain ⟨st, d, rfl⟩ := eq_respond_effect h
  simp only [respond_heater]
  cases i with
  | devinit => exact .inr (.inl ⟨rfl, by simp⟩)
  | htrInit => exact .inr (.inl ⟨rfl, by simp⟩)
  | htrOn =>
    obtain hsame | ⟨hzero, hs⟩ := htrOn_timer s
    · exact .inl hsame
    · exact .inr (.inl ⟨hzero, by simp [hs]⟩)
  | htrCb =>
    obtain hsame | ⟨hzero, hstates⟩ | ⟨hone, hs⟩ := htrCb_timer s
    · exact .inl hsame
    · exact .inr (.inl ⟨hzero, by simp [effect, hstates]⟩)
    · exact .inr (.inr ⟨hone, .inl rfl, hs⟩)
  | poll =>
    obtain hsame | ⟨hzero, hstates⟩ | ⟨hone, hs⟩ := poll_timer s
    · exact .inl hsame
    · exact .inr (.inl ⟨hzero, by simp [effect, hstates]⟩)
    · exact .inr (.inr ⟨hone, .inr rfl, hs⟩)
  | snsCb => exact .inl (by simp [effect])
  | htrOff => exact .inl (htrOff_regulationTimer s)
  | regwr a b => exact .inl (hostWrite_regulationTimer a b s)
  | cfgwr id v => exact .inl (fieldWrite_regulationTimer id v s)
  | tickq | snsInit | snsStart | pidInit | pidCompute _ _ | pwmFreq _ | pwmDuty _ | regrd _ | fldrd _ => exact .inl rfl

end Sys2Proof.Machine
end

section
/-! PROOFS. The output of PID_COMPUTE (10_state.md R53, 42_pid.md R156) and the answers of FLDRD (45_register_interface.md R205): O34 and
O51. -/

namespace Sys2Proof.Machine

/-! ## The output bounds -/

/-- With the bounds the wrong way round the clamp answers one of them: the upper is tested first (00_scope.md R13). -/
theorem clamp_of_reversed {lo hi : Int} (v : Int) (h : hi < lo) : clamp v lo hi = hi ∨ clamp v lo hi = lo := by
  unfold clamp
  split
  · exact .inl rfl
  · exact .inr (if_pos (by omega))

/-- A word is determined by the number it stands for (R14). -/
theorem eq_of_s32_eq {a b : S32} (h : s32 a = s32 b) : a = b := BitVec.eq_of_toInt_eq h

/-- The output is some value clamped to the bounds (R155, R156). -/
theorem pidStep_output_clamp (c : Cfg) (a b : S32) (p : Pid) :
    ∃ v, s32 (pidStep c a b p).output = clamp v (s32 p.outMin) (s32 p.outMax) :=
  ⟨_, pidStep_output c a b p⟩

/-- Settles O34: both clauses are facts of the clamp. -/
theorem pidOutputBounded : Obligations.PidOutputBounded := by
  intro setpoint measured s
  refine ⟨_, rfl, ?_⟩
  obtain ⟨v, hv⟩ := pidStep_output_clamp s.cfg setpoint measured s.pid
  have hrange : s32 s.pid.outMin ≤ s32 s.pid.outMax →
      s32 s.pid.outMin ≤ s32 (pidStep s.cfg setpoint measured s.pid).output ∧
        s32 (pidStep s.cfg setpoint measured s.pid).output ≤ s32 s.pid.outMax := fun hle => by
    rw [hv]; exact clamp_range v hle
  refine ⟨hrange, fun hlt => ?_⟩
  obtain hmax | hmin := clamp_of_reversed v hlt
  · exact .inl (eq_of_s32_eq (hv.trans hmax))
  · exact .inr (eq_of_s32_eq (hv.trans hmin))

/-! ## The answers of FLDRD -/

theorem exec_fldrd_of_row {id : U32} {r : FieldRow} (h : fieldRow id = some r) (s : State) :
    exec (.fldrd id) s = .next { s with rsp := some ⟨.ok, image r.field s⟩ } := by
  change execFldrd id s = _
  unfold execFldrd
  rw [h]
  rfl

theorem exec_fldrd_of_undefined {id : U32} (h : id.toNat ∉ definedIds) (s : State) :
    exec (.fldrd id) s = .next { s with rsp := some ⟨.invalidField, 0⟩ } := by
  change execFldrd id s = _
  unfold execFldrd
  rw [(fieldRow_eq_none_iff id).2 h]
  rfl

/-- Zero-extension keeps the number (R205). -/
theorem toNat_zeroExtend_u8 (x : U8) : (x.zeroExtend 32).toNat = x.toNat :=
  BitVec.toNat_setWidth_of_le (by decide)

theorem toNat_zeroExtend_flag (b : Bool) : ((BitVec.ofBool b).zeroExtend 32).toNat = if b then 1 else 0 := by
  cases b with
  | false => rfl
  | true => rfl

/-- Every unsigned field has a row, and its image is the field's value. -/
theorem fieldRow_of_mem_unsignedFields (s : State) :
    ∀ p ∈ unsignedFields s, ∃ r, fieldRow p.1 = some r ∧ (image r.field s).toNat = p.2 := by
  simp only [unsignedFields, List.cons_append, List.nil_append, List.forall_mem_cons, List.not_mem_nil, false_implies,
    implies_true, and_true]
  exact ⟨⟨_, rfl, toNat_zeroExtend_flag _⟩, ⟨_, rfl, toNat_zeroExtend_u8 _⟩, ⟨_, rfl, toNat_zeroExtend_u8 _⟩,
    ⟨_, rfl, rfl⟩, ⟨_, rfl, rfl⟩, ⟨_, rfl, rfl⟩, ⟨_, rfl, toNat_zeroExtend_u8 _⟩, ⟨_, rfl, toNat_zeroExtend_u8 _⟩,
    ⟨_, rfl, toNat_zeroExtend_u8 _⟩, ⟨_, rfl, rfl⟩, ⟨_, rfl, rfl⟩, ⟨_, rfl, rfl⟩, ⟨_, rfl, toNat_zeroExtend_u8 _⟩,
    ⟨_, rfl, toNat_zeroExtend_u8 _⟩, ⟨_, rfl, toNat_zeroExtend_u8 _⟩, ⟨_, rfl, toNat_zeroExtend_u8 _⟩,
    ⟨_, rfl, toNat_zeroExtend_u8 _⟩⟩

/-- Every signed field has a row, and its image is the field itself. -/
theorem fieldRow_of_mem_signedFields (s : State) :
    ∀ p ∈ signedFields s, ∃ r, fieldRow p.1 = some r ∧ (image r.field s).toInt = p.2 := by
  simp only [signedFields, List.cons_append, List.nil_append, List.forall_mem_cons, List.not_mem_nil, false_implies,
    implies_true, and_true]
  exact ⟨⟨_, rfl, rfl⟩, ⟨_, rfl, rfl⟩, ⟨_, rfl, rfl⟩, ⟨_, rfl, rfl⟩, ⟨_, rfl, rfl⟩, ⟨_, rfl, rfl⟩, ⟨_, rfl, rfl⟩,
    ⟨_, rfl, rfl⟩, ⟨_, rfl, rfl⟩, ⟨_, rfl, rfl⟩, ⟨_, rfl, rfl⟩, ⟨_, rfl, rfl⟩, ⟨_, rfl, rfl⟩, ⟨_, rfl, rfl⟩,
    ⟨_, rfl, rfl⟩, ⟨_, rfl, rfl⟩, ⟨_, rfl, rfl⟩, ⟨_, rfl, rfl⟩, ⟨_, rfl, rfl⟩⟩

/-- The two parts of the accumulator give it back: the sign is in the upper one (R59). -/
theorem accumulator_of_halves (a : S40) :
    a.toInt = ((a.extractLsb' 32 8).signExtend 32).toInt * 4294967296 + (a.extractLsb' 0 32).toNat := by
  have hlt := a.isLt
  rw [BitVec.toInt_signExtend_of_le (by decide)]
  simp only [BitVec.toInt_eq_toNat_cond, BitVec.extractLsb'_toNat, Nat.shiftRight_eq_div_pow]
  omega

/-- Settles O51: the rows of the two lists, the halves of the accumulator, the counts, and the ids without a row. -/
theorem fldrdResult : Obligations.FldrdResult := by
  intro s
  refine ⟨fun p hp => ?_, fun p hp => ?_, ?_, ⟨rfl, rfl⟩, fun id hid => exec_fldrd_of_undefined hid s⟩
  · obtain ⟨r, hr, himage⟩ := fieldRow_of_mem_unsignedFields s p hp
    exact ⟨_, himage, exec_fldrd_of_row hr s⟩
  · obtain ⟨r, hr, himage⟩ := fieldRow_of_mem_signedFields s p hp
    exact ⟨_, himage, exec_fldrd_of_row hr s⟩
  · have hlo : fieldRow 0x27 = some ⟨0x27, .snsAccLo, .s40, false⟩ := rfl
    have hhi : fieldRow 0x28 = some ⟨0x28, .snsAccHi, .s40, false⟩ := rfl
    exact ⟨_, _, exec_fldrd_of_row hlo s, exec_fldrd_of_row hhi s, accumulator_of_halves s.sensor.accumulator⟩

end Sys2Proof.Machine
end

section
/-! PROOFS. The operations that do not see the tick flag (10_state.md R22, 20_memory.md R79): O59. Putting another flag into the state
commutes with each of them. -/

namespace Sys2Proof.Machine

/-- The state with the tick flag given. -/
def withFlag (b : Bool) (s : State) : State := { s with dev := { s.dev with tickFlag := b } }

/-! ## State changes -/

theorem drawSample_withFlag (b : Bool) (s : State) :
    drawSample (withFlag b s) = ((drawSample s).1, withFlag b (drawSample s).2) := by
  have hqueue : (withFlag b s).sampleQueue = s.sampleQueue := rfl
  unfold drawSample
  rw [hqueue]
  cases s.sampleQueue with
  | nil => rfl
  | cons v rest => rfl

theorem resample_withFlag (b : Bool) (k : Nat) (v : S32) (s : State) :
    resample k v (withFlag b s) = ((resample k v s).1, withFlag b (resample k v s).2) := by
  have hsensor : ∀ t, (withFlag b t).sensor = t.sensor := fun _ => rfl
  induction k generalizing v s with
  | zero =>
    unfold resample
    rw [hsensor]
    split
    · rfl
    · rfl
  | succ k ih =>
    unfold resample
    rw [hsensor]
    split
    · rfl
    · rw [drawSample_withFlag]
      exact ih _ _

theorem acquire_withFlag (b : Bool) (s : State) : acquire (withFlag b s) = ((acquire s).1, withFlag b (acquire s).2) := by
  have hsensor : (withFlag b s).sensor = s.sensor := rfl
  unfold acquire
  rw [hsensor, drawSample_withFlag]
  dsimp only
  split
  · rfl
  · exact resample_withFlag b _ _ _

theorem snsCb_withFlag (b : Bool) (s : State) : snsCb (withFlag b s) = withFlag b (snsCb s) := by
  have hsensor : (withFlag b s).sensor = s.sensor := rfl
  unfold snsCb
  rw [hsensor, acquire_withFlag]
  split
  · rfl
  · cases acquire s with
    | mk r t =>
      cases r with
      | none => rfl
      | some v => rfl

theorem htrOn_withFlag (b : Bool) (s : State) : htrOn (withFlag b s) = withFlag b (htrOn s) := by
  have hheater : (withFlag b s).heater = s.heater := rfl
  unfold htrOn
  rw [hheater]
  cases s.heater.state <;> rfl

theorem htrOff_withFlag (b : Bool) (s : State) : htrOff (withFlag b s) = withFlag b (htrOff s) := by
  have hheater : (withFlag b s).heater = s.heater := rfl
  unfold htrOff
  rw [hheater]
  cases s.heater.state <;> rfl

theorem heatingStep_withFlag (b : Bool) (s : State) : heatingStep (withFlag b s) = withFlag b (heatingStep s) := by
  have hheater : (withFlag b s).heater = s.heater := rfl
  unfold heatingStep
  rw [hheater]
  dsimp only
  cases heatingDiagnostic (advanceTimer s.heater) <;> rfl

theorem htrCbWithData_withFlag (b : Bool) (s : State) : htrCbWithData (withFlag b s) = withFlag b (htrCbWithData s) := by
  have hheater : (withFlag b s).heater = s.heater := rfl
  unfold htrCbWithData
  rw [hheater]
  cases s.heater.state with
  | heating => exact heatingStep_withFlag b s
  | uninit | off | shutdown | cooling | on | atTemperature => rfl

theorem htrCb_withFlag (b : Bool) (s : State) : htrCb (withFlag b s) = withFlag b (htrCb s) := by
  have hheater : (withFlag b s).heater = s.heater := rfl
  have hstart : snsStart (withFlag b s) = withFlag b (snsStart s) := rfl
  have hsensor : (withFlag b (snsStart s)).sensor = (snsStart s).sensor := rfl
  unfold htrCb
  rw [hheater, hstart]
  dsimp only
  rw [hsensor]
  split
  · rfl
  · split
    · rfl
    · exact htrCbWithData_withFlag b (mirrorTemperature (snsStart s))

/-! ## The register file and the field-id space -/

/-- The flag is one field of R59's table; no other field's image shows it (R205). -/
theorem image_withFlag {f : Field} (hf : f ≠ .devTickFlag) (b : Bool) (s : State) : image f (withFlag b s) = image f s := by
  cases f with
  | devTickFlag => exact absurd rfl hf
  | _ => rfl

theorem setField_withFlag (f : Field) (v : U32) (b : Bool) (s : State) :
    setField f v (withFlag b s) = withFlag b (setField f v s) := by
  cases f <;> rfl

theorem configure_withFlag (f : Field) (v : U32) (b : Bool) (s : State) :
    configure f v (withFlag b s) = withFlag b (configure f v s) := by
  unfold configure
  rw [setField_withFlag]
  split
  · rfl
  · rfl

/-- The flag is not in the address map (R76). -/
theorem regRow_field_ne_flag {a : Nat} {r : RegRow} (h : regRow a = some r) : r.field ≠ .devTickFlag := by
  have hmap : ∀ r ∈ regMap, r.field ≠ .devTickFlag := by decide
  obtain ⟨hmem, -⟩ := regRow_mem h
  exact hmap r hmem

theorem memRead_withFlag (a : Nat) (b : Bool) (s : State) : memRead a (withFlag b s) = memRead a s := by
  unfold memRead
  cases h : regRow a with
  | none => rfl
  | some r => simp only [Option.map_some, image_withFlag (regRow_field_ne_flag h)]

theorem memWrite_withFlag (a : Nat) (x : U8) (b : Bool) (s : State) :
    memWrite a x (withFlag b s) = (memWrite a x s).map (withFlag b) := by
  unfold memWrite
  cases h : regRow a with
  | none => rfl
  | some r =>
    simp only [Option.map_some, image_withFlag (regRow_field_ne_flag h), setField_withFlag]
    split
    · rfl
    · rfl

/-- The flag's field id is 0 (R59). -/
theorem id_of_fieldRow_flag {id : U32} {r : FieldRow} (h : fieldRow id = some r) (hf : r.field = .devTickFlag) : id = 0 := by
  have hid : ∀ r ∈ fieldTable, r.field = .devTickFlag → r.id = 0 := by decide
  obtain ⟨hmem, heq⟩ := fieldRow_mem h
  exact BitVec.eq_of_toNat_eq (heq.symm.trans (hid r hmem hf))

/-! ## Operations -/

/-- The operation answers the same from a state with another flag, and leaves the same state with that flag. -/
def Oblivious (i : Instr) (b : Bool) (s : State) : Prop :=
  ∃ t st d, exec i s = .next (t.respond st d) ∧ exec i (withFlag b s) = .next ((withFlag b t).respond st d)

theorem oblivious_snsCb (b : Bool) (s : State) : Oblivious .snsCb b s := by
  refine ⟨snsCb s, _, _, rfl, ?_⟩
  change execSnsCb (withFlag b s) = _
  unfold execSnsCb
  rw [snsCb_withFlag]
  rfl

theorem oblivious_htrCb (b : Bool) (s : State) : Oblivious .htrCb b s := by
  refine ⟨htrCb s, _, _, rfl, ?_⟩
  change execHtrCb (withFlag b s) = _
  unfold execHtrCb
  rw [htrCb_withFlag]
  rfl

theorem oblivious_htrOn (b : Bool) (s : State) : Oblivious .htrOn b s := by
  have hheater : (withFlag b s).heater = s.heater := rfl
  change ∃ t st d, execHtrOn s = _ ∧ execHtrOn (withFlag b s) = _
  unfold execHtrOn
  rw [hheater, htrOn_withFlag]
  split
  · exact ⟨_, _, _, rfl, rfl⟩
  · exact ⟨_, _, _, rfl, rfl⟩

theorem oblivious_htrOff (b : Bool) (s : State) : Oblivious .htrOff b s := by
  have hheater : (withFlag b s).heater = s.heater := rfl
  change ∃ t st d, execHtrOff s = _ ∧ execHtrOff (withFlag b s) = _
  unfold execHtrOff
  rw [hheater, htrOff_withFlag]
  split
  · exact ⟨_, _, _, rfl, rfl⟩
  · exact ⟨_, _, _, rfl, rfl⟩

theorem oblivious_regrd (a : U32) (b : Bool) (s : State) : Oblivious (.regrd a) b s := by
  change ∃ t st d, execRegrd a s = _ ∧ execRegrd a (withFlag b s) = _
  unfold execRegrd
  rw [memRead_withFlag]
  cases memRead a.toNat s with
  | some x => exact ⟨_, _, _, rfl, rfl⟩
  | none => exact ⟨_, _, _, rfl, rfl⟩

theorem oblivious_regwr (a x : U32) (b : Bool) (s : State) : Oblivious (.regwr a x) b s := by
  change ∃ t st d, execRegwr a x s = _ ∧ execRegwr a x (withFlag b s) = _
  unfold execRegwr
  rw [memWrite_withFlag]
  cases memWrite a.toNat (dataByte x) s with
  | some t => exact ⟨_, _, _, rfl, rfl⟩
  | none => exact ⟨_, _, _, rfl, rfl⟩

/-- Of the 38 fields FLDRD can read, only the flag itself shows the flag. -/
theorem oblivious_fldrd {id : U32} (hid : id ≠ 0) (b : Bool) (s : State) : Oblivious (.fldrd id) b s := by
  change ∃ t st d, execFldrd id s = _ ∧ execFldrd id (withFlag b s) = _
  unfold execFldrd
  cases h : fieldRow id with
  | none => exact ⟨_, _, _, rfl, rfl⟩
  | some r =>
    have hfield : r.field ≠ .devTickFlag := fun hf => hid (id_of_fieldRow_flag h hf)
    dsimp only
    rw [image_withFlag hfield]
    exact ⟨_, _, _, rfl, rfl⟩

theorem oblivious_cfgwr (id v : U32) (b : Bool) (s : State) : Oblivious (.cfgwr id v) b s := by
  change ∃ t st d, execCfgwr id v s = _ ∧ execCfgwr id v (withFlag b s) = _
  unfold execCfgwr
  cases fieldRow id with
  | none => exact ⟨_, _, _, rfl, rfl⟩
  | some r =>
    dsimp only
    rw [configure_withFlag]
    split
    · exact ⟨_, _, _, rfl, rfl⟩
    · exact ⟨_, _, _, rfl, rfl⟩

/-- Of the rules, only those of DEVINIT, TICKQ, POLL and FLDRD of id 0 name the flag (R22). -/
theorem oblivious_of_ne {i : Instr} (hdevinit : i ≠ .devinit) (htickq : i ≠ .tickq) (hpoll : i ≠ .poll)
    (hfldrd : i ≠ .fldrd 0x00) (b : Bool) (s : State) : Oblivious i b s := by
  cases i with
  | devinit => exact absurd rfl hdevinit
  | tickq => exact absurd rfl htickq
  | poll => exact absurd rfl hpoll
  | snsCb => exact oblivious_snsCb b s
  | htrOn => exact oblivious_htrOn b s
  | htrOff => exact oblivious_htrOff b s
  | htrCb => exact oblivious_htrCb b s
  | regrd a => exact oblivious_regrd a b s
  | regwr a x => exact oblivious_regwr a x b s
  | fldrd id => exact oblivious_fldrd (fun hid => hfldrd (congrArg Instr.fldrd hid)) b s
  | cfgwr id v => exact oblivious_cfgwr id v b s
  | snsInit => exact ⟨snsInit s, _, _, rfl, rfl⟩
  | snsStart => exact ⟨snsStart s, _, _, rfl, rfl⟩
  | pidInit => exact ⟨pidInit s, _, _, rfl, rfl⟩
  | pidCompute x y => exact ⟨pidCompute x y s, _, _, rfl, rfl⟩
  | htrInit => exact ⟨htrInit s, _, _, rfl, rfl⟩
  | pwmFreq hz => exact ⟨pwmFreq hz s, _, _, rfl, rfl⟩
  | pwmDuty p => exact ⟨pwmDuty (s32 p) s, _, _, rfl, rfl⟩

/-- Settles O59: the flag is not read, by `oblivious_of_ne`, and not written, by the frame of the device structure. -/
theorem flagObliviousOperations : Obligations.FlagObliviousOperations := by
  intro i s b hdevinit htickq hpoll hfldrd
  obtain ⟨t, st, d, hexec, hflag⟩ := oblivious_of_ne hdevinit htickq hpoll hfldrd b s
  refine ⟨t.respond st d, hexec, ?_, hflag⟩
  obtain ⟨st', d', heffect⟩ := eq_respond_effect hexec
  rw [heffect]
  by_contra hne
  obtain hi | hi := effect_counters_owner i s (.inl hne)
  · exact hdevinit hi
  · exact hpoll hi

end Sys2Proof.Machine
end

section
/-! PROOFS. The frame of the host register file (20_memory.md R70, R73, R76): O56. A byte of it is a window on one mapped field, so
the owners of the fields give the frame of every operation but REGWR and CFGWR, which write one field by name. -/

namespace Sys2Proof.Machine

/-! ## A byte is a window on its row's field -/

/-- The addresses of a row of the address map. -/
def rowAddresses (r : RegRow) : List Nat := List.range' r.offset r.bytes

theorem mem_rowAddresses {a : Nat} {r : RegRow} (h : regRow a = some r) : a ∈ rowAddresses r := by
  obtain ⟨-, hlo, hhi⟩ := regRow_mem h
  exact List.mem_range'_1.2 ⟨hlo, hhi⟩

theorem memRead_of_regRow {a : Nat} {r : RegRow} (h : regRow a = some r) (s : State) :
    memRead a s = some (byteOf (image r.field s) (a - r.offset)) := by
  rw [memRead, h, Option.map_some]

/-- A byte is the same in two states that agree on the field it is a window on (R70). -/
theorem memRead_congr {a : Nat} {s t : State} (h : ∀ r, regRow a = some r → image r.field t = image r.field s) :
    memRead a t = memRead a s := by
  unfold memRead
  cases hr : regRow a with
  | none => rfl
  | some r => rw [Option.map_some, Option.map_some, h r hr]

/-- The response word is in no field of R59's table. -/
@[simp] theorem image_respond (f : Field) (st : Status) (d : U32) (s : State) : image f (s.respond st d) = image f s := rfl

@[simp] theorem memRead_respond (a : Nat) (st : Status) (d : U32) (s : State) :
    memRead a (s.respond st d) = memRead a s := memRead_congr fun r _ => image_respond r.field st d s

/-! ## Operations that write a field by name -/

/-- Configuring a field changes no other mapped field, and no read-only one at all: `sensor.samples`, which the write of
`sensor.spr` zeroes, is not in the map (R76, R206, R207). -/
theorem image_configure_of_ne {r : RegRow} (hr : r ∈ regMap) {g : Field} (hg : r.rw = true → g ≠ r.field) (v : U32) (s : State) :
    image r.field (configure g v s) = image r.field s := by
  fin_cases hr
  · cases g <;> rfl
  · cases g <;> rfl
  · cases g with
    | htrSetpoint => exact absurd rfl (hg rfl)
    | _ => rfl
  · cases g <;> rfl
  · cases g <;> rfl
  · cases g <;> rfl
  · cases g with
    | pidKp => exact absurd rfl (hg rfl)
    | _ => rfl
  · cases g with
    | pidKi => exact absurd rfl (hg rfl)
    | _ => rfl
  · cases g with
    | pidKd => exact absurd rfl (hg rfl)
    | _ => rfl

/-- The read-write fields of the map have one field id each, and CFGWR of it stores to the field's window (R59, R76). -/
theorem storedAddresses_cfgwr {r : RegRow} (hr : r ∈ regMap) (hrw : r.rw = true) {id : U32} {q : FieldRow}
    (hq : fieldRow id = some q) (hf : q.field = r.field) (v : U32) : storedAddresses (.cfgwr id v) = rowAddresses r := by
  have hids : ∀ r ∈ regMap, r.rw = true → ∀ q ∈ fieldTable, q.field = r.field →
      storedAddresses (.cfgwr (BitVec.ofNat 32 q.id) 0) = rowAddresses r := by decide
  obtain ⟨hmem, hid⟩ := fieldRow_mem hq
  have hw := hids r hr hrw q hmem hf
  rw [hid, BitVec.ofNat_toNat, BitVec.setWidth_eq] at hw
  exact hw

/-- CFGWR leaves the bytes outside the window of the field it names (R206). -/
theorem memRead_fieldWrite {a : Nat} {id v : U32} (ha : a ∉ storedAddresses (.cfgwr id v)) (s : State) :
    memRead a (fieldWrite id v s) = memRead a s := by
  obtain he | ⟨q, hq, he⟩ := fieldWrite_cases id v s
  · rw [he]
  · rw [he]
    refine memRead_congr fun r hr => image_configure_of_ne (regRow_mem hr).1 (fun hrw hf => ha ?_) v s
    rw [storedAddresses_cfgwr (regRow_mem hr).1 hrw hq hf]
    exact mem_rowAddresses hr

/-- REGWR stores to its address where that lies in a read-write row (R73). -/
theorem storedAddresses_regwr {addr : U32} {q : RegRow} (hq : regRow addr.toNat = some q) (hrw : q.rw = true) (b : U32) :
    storedAddresses (.regwr addr b) = [addr.toNat] := by
  have hrows : ∀ q ∈ regMap, q.rw = true →
      (0x02 ≤ q.offset ∧ q.offset + q.bytes ≤ 0x06) ∨ (0x0C ≤ q.offset ∧ q.offset + q.bytes ≤ 0x18) := by decide
  obtain ⟨hmem, hlo, hhi⟩ := regRow_mem hq
  have hrange := hrows q hmem hrw
  exact if_pos (by omega)

/-- What REGWR does to the state: its byte replaced in the field of a read-write row, otherwise nothing (R73, R77). -/
theorem hostWrite_cases (addr b : U32) (s : State) :
    hostWrite addr b s = s ∨ ∃ q, regRow addr.toNat = some q ∧ q.rw = true ∧
      hostWrite addr b s = configure q.field (withByte (image q.field s) (addr.toNat - q.offset) (dataByte b)) s := by
  have hspr : ∀ q ∈ regMap, q.field ≠ .snsSpr := by decide
  unfold hostWrite memWrite
  cases hq : regRow addr.toNat with
  | none => exact .inl rfl
  | some q =>
    rw [Option.map_some, Option.getD_some]
    cases hrw : q.rw with
    | false => exact .inl rfl
    | true => exact .inr ⟨q, rfl, hrw, (if_neg (hspr q (regRow_mem hq).1)).symm⟩

/-- A read-write field of the map holds what it is configured with (R206). -/
theorem image_configure_same {r : RegRow} (hr : r ∈ regMap) (hrw : r.rw = true) (v : U32) (s : State) :
    image r.field (configure r.field v s) = v := by
  fin_cases hr
  · cases hrw
  · cases hrw
  · rfl
  · cases hrw
  · cases hrw
  · cases hrw
  · rfl
  · rfl
  · rfl

/-- Every row of the map has its own field (R76). -/
theorem regMap_field_injective : ∀ r ∈ regMap, ∀ q ∈ regMap, q.field = r.field → q = r := by decide

theorem regMap_bytes_le : ∀ r ∈ regMap, r.bytes ≤ 4 := by decide

/-- REGWR leaves every byte but the one at its address, those of the same field too (R73). -/
theorem memRead_hostWrite {a : Nat} {addr b : U32} (ha : a ∉ storedAddresses (.regwr addr b)) (s : State) :
    memRead a (hostWrite addr b s) = memRead a s := by
  obtain he | ⟨q, hq, hrw, he⟩ := hostWrite_cases addr b s
  · rw [he]
  · rw [storedAddresses_regwr hq hrw, List.mem_singleton] at ha
    obtain ⟨hqmem, hqlo, hqhi⟩ := regRow_mem hq
    rw [he]
    cases hr : regRow a with
    | none => simp only [memRead, hr, Option.map_none]
    | some r =>
      obtain ⟨hrmem, hrlo, hrhi⟩ := regRow_mem hr
      by_cases hf : q.field = r.field
      · obtain rfl := regMap_field_injective r hrmem q hqmem hf
        have hbytes := regMap_bytes_le q hqmem
        rw [memRead_of_regRow hr, memRead_of_regRow hr, image_configure_same hqmem hrw,
          byteOf_withByte_other _ _ _ _ (by omega) (by omega) (by omega)]
      · rw [memRead_of_regRow hr, memRead_of_regRow hr, image_configure_of_ne hrmem fun _ => hf]

/-! ## The other operations, by the owners of the mapped fields -/

/-- What the host sees of the sensor (R70). -/
def hostReading (s : State) : SensorState × SensorCode × S32 := (s.sensor.state, s.sensor.code, s.sensor.temperature)

/-- What the host sees of the PID (R70). -/
def hostGains (s : State) : S32 × S32 × S32 := (s.pid.kp, s.pid.ki, s.pid.kd)

/-- The operations that write a field by name. -/
def WritesNamedField (i : Instr) : Prop := (∃ a b, i = .regwr a b) ∨ ∃ id v, i = .cfgwr id v

@[simp] theorem htrOff_code (s : State) : (htrOff s).heater.code = s.heater.code :=
  htrOff_field (fun t => t.heater.code) s rfl

/-- HTR_CB computes with the gains and leaves them (R178). -/
theorem htrCb_hostGains (s : State) : hostGains (htrCb s) = hostGains s :=
  htrCb_field hostGains s rfl rfl rfl rfl rfl rfl rfl

theorem poll_hostGains (s : State) : hostGains (poll s).2 = hostGains s :=
  poll_field hostGains s (fun _ => rfl) (fun _ _ => rfl) (fun t => by rw [hostGains, snsCb_pid, hostGains])
    htrCb_hostGains (fun _ _ => rfl) (fun _ _ => rfl)

/-- HTR_CB restarts the sensor's period and leaves its reading (R174). -/
theorem htrCb_hostReading (s : State) : hostReading (htrCb s) = hostReading s :=
  htrCb_field hostReading s rfl rfl rfl rfl rfl rfl rfl

/-- The heater operations, DEVINIT and POLL store to the byte of `heater.state` (R76). -/
theorem heaterState_stored (i : Instr) (s : State) (h : (effect i s).heater.state ≠ s.heater.state) :
    WritesNamedField i ∨ [0x00] ⊆ storedAddresses i := by
  obtain rfl | rfl | rfl | rfl | rfl | rfl | hw | hw := effect_heater_owner i s fun he => h (by rw [he])
  · exact .inr (by decide)
  · exact .inr (by decide)
  · exact .inr (by decide)
  · exact .inr (by decide)
  · exact .inr (by decide)
  · exact .inr (by decide)
  · exact .inl (.inl hw)
  · exact .inl (.inr hw)

/-- Of the same operations, HTR_OFF alone keeps `heater.code` (R172). -/
theorem heaterCode_stored (i : Instr) (s : State) (h : (effect i s).heater.code ≠ s.heater.code) :
    WritesNamedField i ∨ [0x01] ⊆ storedAddresses i := by
  obtain rfl | rfl | rfl | rfl | rfl | rfl | hw | hw := effect_heater_owner i s fun he => h (by rw [he])
  · exact .inr (by decide)
  · exact .inr (by decide)
  · exact .inr (by decide)
  · exact .inr (by decide)
  · exact absurd (htrOff_code s) h
  · exact .inr (by decide)
  · exact .inl (.inl hw)
  · exact .inl (.inr hw)

/-- Of the sensor's owners, SNS_START and HTR_CB keep the reading the host sees (R133, R174). -/
theorem hostReading_stored (i : Instr) (s : State) (h : hostReading (effect i s) ≠ hostReading s) :
    WritesNamedField i ∨ List.range' 0x06 6 ⊆ storedAddresses i := by
  obtain rfl | rfl | rfl | rfl | rfl | rfl | hw := effect_sensor_owner i s fun he => h (by rw [hostReading, he, hostReading])
  · exact .inr (by decide)
  · exact .inr (by decide)
  · exact .inr (by decide)
  · exact absurd rfl h
  · exact .inr (by decide)
  · exact absurd (htrCb_hostReading s) h
  · exact .inl (.inr hw)

/-- Of the PID's owners, POLL, HTR_CB and PID_COMPUTE keep the gains (R151, R178). -/
theorem hostGains_stored (i : Instr) (s : State) (h : hostGains (effect i s) ≠ hostGains s) :
    WritesNamedField i ∨ List.range' 0x0C 12 ⊆ storedAddresses i := by
  obtain rfl | rfl | rfl | rfl | ⟨a, b, rfl⟩ | hw | hw := effect_pid_owner i s fun he => h (by rw [hostGains, he, hostGains])
  · exact .inr (by decide)
  · exact absurd (poll_hostGains s) h
  · exact .inr (by decide)
  · exact absurd (htrCb_hostGains s) h
  · exact absurd rfl h
  · exact .inl (.inl hw)
  · exact .inl (.inr hw)

/-- The set-point has no owner among the operations that do not write a field by name (R32). -/
theorem setpoint_stored (i : Instr) (s : State) (h : (effect i s).heater.setpoint ≠ s.heater.setpoint) :
    WritesNamedField i := by
  obtain hw | ⟨v, hw⟩ := effect_setpoint_owner i s h
  · exact .inl hw
  · exact .inr ⟨0x13, v, hw⟩

/-- An operation that changes a mapped field stores to the field's whole window, or writes a field by name (R76). -/
theorem image_stored (i : Instr) {r : RegRow} (hr : r ∈ regMap) (s : State)
    (h : image r.field (effect i s) ≠ image r.field s) : WritesNamedField i ∨ rowAddresses r ⊆ storedAddresses i := by
  have hreading := hostReading_stored i s
  have hgains := hostGains_stored i s
  fin_cases hr
  · exact heaterState_stored i s fun he => h (congrArg (fun x => (heaterStateWord x).zeroExtend 32) he)
  · exact heaterCode_stored i s fun he => h (congrArg (fun x => (heaterCodeWord x).zeroExtend 32) he)
  · exact .inl (setpoint_stored i s h)
  · refine (hreading fun he => h ?_).imp_right (List.Subset.trans (by decide))
    exact congrArg (fun x => (sensorStateWord x.1).zeroExtend 32) he
  · refine (hreading fun he => h ?_).imp_right (List.Subset.trans (by decide))
    exact congrArg (fun x => (sensorCodeWord x.2.1).zeroExtend 32) he
  · exact (hreading fun he => h (congrArg (fun x => x.2.2) he)).imp_right (List.Subset.trans (by decide))
  · exact (hgains fun he => h (congrArg (fun x => x.1) he)).imp_right (List.Subset.trans (by decide))
  · exact (hgains fun he => h (congrArg (fun x => x.2.1) he)).imp_right (List.Subset.trans (by decide))
  · exact (hgains fun he => h (congrArg (fun x => x.2.2) he)).imp_right (List.Subset.trans (by decide))

theorem memRead_effect {i : Instr} (hi : ¬ WritesNamedField i) {a : Nat} (ha : a ∉ storedAddresses i) (s : State) :
    memRead a (effect i s) = memRead a s := by
  refine memRead_congr fun r hr => ?_
  by_contra hne
  obtain hw | hsub := image_stored i (regRow_mem hr).1 s hne
  · exact hi hw
  · exact ha (hsub (mem_rowAddresses hr))

/-- Settles O56: REGWR and CFGWR by the field they name, the other operations by the owners of the mapped fields. -/
theorem registerFileFrame : Obligations.RegisterFileFrame := by
  intro i s t a h ha
  obtain ⟨st, d, rfl⟩ := eq_respond_effect h
  rw [memRead_respond]
  by_cases hi : WritesNamedField i
  · obtain ⟨addr, b, rfl⟩ | ⟨id, v, rfl⟩ := hi
    · exact memRead_hostWrite ha s
    · exact memRead_fieldWrite ha s
  · exact memRead_effect hi ha s

end Sys2Proof.Machine
end

section
/-! PROOFS. The encoding (30_encoding.md): the opcode byte and the used operand fields fix a command word's meaning (R90 to R94, R97),
the illegal opcodes (R95) and the numbers of the words (R91, R96). O1 to O6. -/

namespace Sys2Proof.Machine

/-! ## Decoding an encoded operation -/

theorem decode_encode (i : Instr) : decode (encode i) = .instr i := by
  cases i with
  | pidCompute _ _ | pwmFreq _ | pwmDuty _ | regrd _ | regwr _ _ | fldrd _ | cfgwr _ _ =>
    simp [decode, encode, Instr.opcode, Instr.fields]
  | devinit | tickq | poll | snsInit | snsStart | snsCb | pidInit | htrInit | htrOn | htrOff | htrCb => rfl

/-- Two operations with one command word are the same operation. -/
theorem encode_injective {i j : Instr} (h : encode i = encode j) : i = j := by
  have hd : Decoded.instr i = .instr j := by rw [← decode_encode i, h, decode_encode j]
  exact Decoded.instr.inj hd

/-- The table's 72 bits of a word decode as the word (assumption log 15). -/
theorem decodeTableWord_toNat {w : CmdWord} {i : Instr} (h : decode w = .instr i) : decodeTableWord 72 w.toNat = some i := by
  have hlt : w.toNat % 2 ^ 72 < 2 ^ 72 := Nat.mod_lt _ (by decide)
  rw [decodeTableWord, if_pos hlt, tableWord_toNat, h]

/-! ## The bits a format uses -/

/-- The operand fields that a format takes from a command word, and zero for the others (R90, R94). -/
def usedOperands : Format → CmdWord → U32 × U32
  | .n, _ => (0, 0)
  | .a, w => (cmdA w, 0)
  | .ab, w => (cmdA w, cmdB w)

theorem cmdWord_and (op op' : BitVec 8) (a a' b b' : U32) :
    cmdWord op a b &&& cmdWord op' a' b' = cmdWord (op &&& op') (a &&& a') (b &&& b') :=
  BitVec.and_append.trans (congrArg (fun x : BitVec (8 + 32) => (x ++ (b &&& b') : BitVec (8 + 32 + 32))) BitVec.and_append)

/-- The mask of a format keeps the opcode and the operand fields it uses. -/
theorem and_operandMask (f : Format) (w : CmdWord) :
    w &&& (0xFF_00000000_00000000 ||| f.operandMask) = cmdWord (cmdOp w) (usedOperands f w).1 (usedOperands f w).2 := by
  nth_rw 1 [← cmdWord_fields w]
  cases f with
  | n =>
    have hmask : 0xFF_00000000_00000000 ||| Format.n.operandMask = cmdWord (BitVec.allOnes 8) 0#32 0#32 := by decide
    rw [hmask, cmdWord_and, BitVec.and_allOnes, BitVec.and_zero, BitVec.and_zero]
    rfl
  | a =>
    have hmask : 0xFF_00000000_00000000 ||| Format.a.operandMask = cmdWord (BitVec.allOnes 8) (BitVec.allOnes 32) 0#32 := by decide
    rw [hmask, cmdWord_and, BitVec.and_allOnes, BitVec.and_allOnes, BitVec.and_zero]
    rfl
  | ab =>
    have hmask : 0xFF_00000000_00000000 ||| Format.ab.operandMask =
        cmdWord (BitVec.allOnes 8) (BitVec.allOnes 32) (BitVec.allOnes 32) := by decide
    rw [hmask, cmdWord_and, BitVec.and_allOnes, BitVec.and_allOnes, BitVec.and_allOnes]
    rfl

/-! ## Encoding a decoded word -/

/-- What `decode_cases` says of a word known to carry an operation. -/
theorem fields_of_decode {w : CmdWord} {i : Instr} (h : decode w = .instr i) :
    i.opcode = cmdOp w ∧ i.fields = usedOperands i.format w ∧ illegalByte (cmdOp w).toNat = false := by
  obtain ⟨j, hj, hop, hn, ha, hab, hlegal⟩ | ⟨hillegal, -⟩ := decode_cases w
  · obtain rfl : i = j := Decoded.instr.inj (h.symm.trans hj)
    refine ⟨hop, ?_, hlegal⟩
    cases hf : i.format with
    | n => exact hn hf
    | a => exact ha hf
    | ab => exact hab hf
  · rw [h] at hillegal
    cases hillegal

theorem encode_of_decode {w : CmdWord} {i : Instr} (h : decode w = .instr i) :
    encode i = w &&& (0xFF_00000000_00000000 ||| i.format.operandMask) := by
  obtain ⟨hop, hfields, -⟩ := fields_of_decode h
  rw [and_operandMask, encode, hop, hfields]

/-! ## The legal and the illegal opcodes -/

/-- The last range of R95: from 0x62 on no byte is an opcode. -/
theorem illegalByte_of_ge {o : Nat} (hlo : 0x62 ≤ o) (hhi : o ≤ 0xFF) : illegalByte o = true := by
  rw [illegalByte, decide_eq_true hlo, decide_eq_true hhi, Bool.and_true, Bool.or_true]

/-- 80 of the bytes below 0x62 and the 158 from there on (R95). -/
theorem length_illegalBytes : ((List.range 256).filter illegalByte).length = 238 := by
  have hsplit : List.range 256 = List.range 0x62 ++ List.range' 0x62 158 := by
    rw [List.range_eq_range', List.range_eq_range', List.range'_append_1]
  have hlow : ((List.range 0x62).filter illegalByte).length = 80 := by decide
  have hhigh : (List.range' 0x62 158).filter illegalByte = List.range' 0x62 158 := by
    refine List.filter_eq_self.mpr fun o ho => ?_
    obtain ⟨hlo, hhi⟩ := List.mem_range'_1.mp ho
    exact illegalByte_of_ge hlo (by omega)
  rw [hsplit, List.filter_append, List.length_append, hlow, hhigh, List.length_range']

theorem decode_illegal_iff (w : CmdWord) : illegalByte (cmdOp w).toNat = true ↔ decode w = .illegalOp (cmdOp w) := by
  obtain ⟨i, hi, -, -, -, -, hlegal⟩ | ⟨hd, hillegal⟩ := decode_cases w
  · simp [hi, hlegal]
  · simp [hd, hillegal]

theorem decode_legal_iff (w : CmdWord) : illegalByte (cmdOp w).toNat = false ↔ ∃ i, decode w = .instr i := by
  obtain ⟨i, hi, -, -, -, -, hlegal⟩ | ⟨hd, hillegal⟩ := decode_cases w
  · simp [hi, hlegal]
  · simp [hd, hillegal]

theorem step_of_command_illegal {s : State} {w : CmdWord} {rest : List Input} {op : BitVec 8}
    (h : s.inputs = .command w :: rest) (hd : decode w = .illegalOp op) :
    step s = .next (illegalCommand { s with inputs := rest }) := by
  simp [step, fetch, h, hd]

/-! ## Ignored operand bits -/

/-- The format column of R93, by the opcode byte. -/
def opcodeFormat (op : BitVec 8) : Format :=
  if op ∈ ([0x21, 0x51, 0x61] : List (BitVec 8)) then .ab
  else if op ∈ ([0x40, 0x41, 0x50, 0x60] : List (BitVec 8)) then .a
  else .n

theorem opcodeFormat_opcode (i : Instr) : opcodeFormat i.opcode = i.format := by
  cases i <;> rfl

theorem format_eq_of_opcode_eq {i j : Instr} (h : i.opcode = j.opcode) : i.format = j.format := by
  rw [← opcodeFormat_opcode i, h, opcodeFormat_opcode]

/-- A word with the opcode and the used bits of a word that carries an operation carries the same one (R94). -/
theorem decode_eq_of_and_eq {w w' : CmdWord} {i : Instr} (h : decode w = .instr i)
    (hw : w &&& (0xFF_00000000_00000000 ||| i.format.operandMask) = w' &&& (0xFF_00000000_00000000 ||| i.format.operandMask)) :
    decode w' = .instr i := by
  obtain ⟨hop, -, hlegal⟩ := fields_of_decode h
  have hop' : cmdOp w' = cmdOp w := by
    have hcmd := congrArg cmdOp hw
    rw [and_operandMask, and_operandMask, cmdOp_cmdWord, cmdOp_cmdWord] at hcmd
    exact hcmd.symm
  obtain ⟨j, hj⟩ := (decode_legal_iff w').mp (by rw [hop', hlegal])
  have hformat : j.format = i.format :=
    format_eq_of_opcode_eq ((fields_of_decode hj).1.trans (hop'.trans hop.symm))
  have hencode : encode j = encode i := by
    rw [encode_of_decode hj, encode_of_decode h, hformat, hw]
  rw [hj, encode_injective hencode]

theorem dataByte_eq_of_mod_eq {b b' : U32} (h : b.toNat % 256 = b'.toNat % 256) : dataByte b = dataByte b' := by
  apply BitVec.eq_of_toNat_eq
  simpa [dataByte] using h

/-- REGWR uses its operand B through `B[7:0]` alone (R92). -/
theorem exec_regwr_of_dataByte_eq {b b' : U32} (h : dataByte b = dataByte b') (a : U32) (s : State) :
    exec (.regwr a b) s = exec (.regwr a b') s := by
  change execRegwr a b s = execRegwr a b' s
  rw [execRegwr, execRegwr, h]

/-! ## The response word -/

theorem responseWord_status (r : Response) : (responseWord r).extractLsb' 32 8 = statusWord r.status :=
  BitVec.extractLsb'_append_eq_left

theorem responseWord_data (r : Response) : (responseWord r).extractLsb' 0 32 = r.data :=
  BitVec.extractLsb'_append_eq_right

/-! ## The obligations -/

/-- Settles O1: the operation's fields come back from its command word, and its table bits are that word. -/
theorem decodeEncodeAgree : Obligations.DecodeEncodeAgree := fun i =>
  ⟨decode_encode i, decodeTableWord_toNat (decode_encode i)⟩

/-- Settles O2: opcode and used operands of the word, field by field. -/
theorem encodeDecodeClearsIgnoredBits : Obligations.EncodeDecodeClearsIgnoredBits := fun _ _ h => encode_of_decode h

/-- Settles O3: the count of the bytes R95 lists, and the two answers of the decoder. -/
theorem illegalOpcode : Obligations.IllegalOpcode := by
  refine ⟨length_illegalBytes, fun w => ⟨decode_illegal_iff w, decode_legal_iff w, fun s rest hillegal hs => ?_⟩⟩
  exact step_of_command_illegal hs ((decode_illegal_iff w).mp hillegal)

/-- Settles O5: the words agree on the bits their format uses, and REGWR on its data byte. -/
theorem ignoredBitsHaveNoEffect : Obligations.IgnoredBitsHaveNoEffect :=
  ⟨fun _ _ _ h hw => decode_eq_of_and_eq h hw, fun a _ _ s hb => exec_regwr_of_dataByte_eq (dataByte_eq_of_mod_eq hb) a s⟩

/-- Settles O4: each word is the encoding of its operation. -/
theorem decodeReadsSpecWords : Obligations.DecodeReadsSpecWords :=
  ⟨decode_encode .devinit, decode_encode .snsCb, decode_encode (.pidCompute 20000 15000), decode_encode .htrCb,
    decode_encode (.pwmFreq 1000), decode_encode (.regwr 2 0x20), decode_encode (.cfgwr 0x39 400)⟩

/-- Settles O6: the two fields of a response word, and the tables of numbers by evaluation. -/
theorem codesOfWords : Obligations.CodesOfWords :=
  ⟨fun r => ⟨responseWord_status r, responseWord_data r⟩, rfl, rfl, rfl, rfl, rfl, rfl⟩

end Sys2Proof.Machine
end

section
/-! PROOFS. The tick flag, POLL and DEVINIT (40_scheduler.md R110 to R119): O8, O13 to O17 and O19. The count of the cadences is read
off one record, which every operation but POLL and DEVINIT leaves; POLL moves it by its stages. -/

namespace Sys2Proof.Machine

/-! ## The tick flag -/

/-- A step with a TICK event next in the run (R110). -/
theorem step_of_inputs_tick {s : State} {rest : List Input} (h : s.inputs = .tick :: rest) :
    step s = .next (tickEvent { s with inputs := rest }) := by
  simp [step, fetch, h]

/-- Further TICK events before a POLL add their events to the trace and nothing else (R118). -/
theorem run_ticks (n : Nat) {s : State} {rest : List Input} (h : s.inputs = List.replicate (n + 1) .tick ++ rest) :
    Host.Core.run core (n + 1) s =
      .next { s with
        inputs := rest, dev := { s.dev with tickFlag := true }, trace := s.trace ++ List.replicate (n + 1) .tick } := by
  induction n generalizing s with
  | zero => exact (run_succ 0 (step_of_inputs_tick h)).trans (run_zero _)
  | succ n ih =>
    have hstep : step s = .next (tickEvent { s with inputs := List.replicate (n + 1) .tick ++ rest }) :=
      step_of_inputs_tick h
    have htrace : s.trace ++ [.tick] ++ List.replicate (n + 1) Event.tick = s.trace ++ List.replicate (n + 2) .tick := by
      rw [List.append_assoc]; rfl
    rw [run_succ (n + 1) hstep, ih rfl, tickEvent_trace, htrace]
    rfl

/-- The image of a flag as the response carries it (R205). -/
theorem zeroExtend_ofBool (b : Bool) : (BitVec.ofBool b).zeroExtend 32 = if b then 1 else 0 := by
  cases b with
  | false => rfl
  | true => rfl

/-- POLL's test-and-clear: no tick is pending after it (R112, 20_memory.md R82). -/
theorem poll_tickFlag (s : State) : (poll s).2.dev.tickFlag = false := by
  obtain ⟨hf, hp⟩ | ⟨-, ⟨-, hp⟩ | ⟨-, ⟨-, hp⟩ | ⟨-, hp⟩⟩⟩ := poll_cases s
  · rw [hp]; exact hf
  · rw [hp]; simp
  · rw [hp]; simp
  · rw [hp]; simp

/-! ## POLL with a tick pending -/

theorem exec_poll_of_poll_eq {s t : State} {d : U32} (h : poll s = (d, t)) : exec .poll s = .next (t.respond .ok d) := by
  show Host.Outcome.next ((poll s).2.respond .ok (poll s).1) = _
  rw [h]

/-- The three ends of a serviced tick, by the counters (R112 to R114). -/
theorem poll_of_pending {s : State} (hf : s.dev.tickFlag = true) :
    (1 < s.dev.cnt100ms.toNat → poll s = (1, setCnt100ms (dec s.dev.cnt100ms) (after10ms s))) ∧
      (s.dev.cnt100ms.toNat ≤ 1 → 1 < s.dev.cnt1s.toNat → poll s = (3, setCnt1s (dec s.dev.cnt1s) (after100ms s))) ∧
      (s.dev.cnt100ms.toNat ≤ 1 → s.dev.cnt1s.toNat ≤ 1 → poll s = (7, handler1s (setCnt1s 10 (after100ms s)))) := by
  obtain ⟨hno, -⟩ | ⟨-, ⟨hc, hp⟩ | ⟨hc, ⟨hd, hp⟩ | ⟨hd, hp⟩⟩⟩ := poll_cases s
  · simp [hf] at hno
  · exact ⟨fun _ => hp, fun _ => by omega, fun _ => by omega⟩
  · exact ⟨fun _ => by omega, fun _ _ => hp, fun _ _ => by omega⟩
  · exact ⟨fun _ => by omega, fun _ _ => by omega, fun _ _ => hp⟩

/-- The whole device structure where a serviced tick ends after the 10 ms handler. -/
theorem setCnt100ms_after10ms (c : U8) (s : State) :
    setCnt100ms c (after10ms s) = { after10ms s with dev := { s.dev with tickFlag := false, cnt100ms := c } } := by
  rw [setCnt100ms, after10ms_dev]

/-- The whole device structure where a serviced tick ends after the 100 ms handler. -/
theorem setCnt1s_after100ms (c : U8) (s : State) :
    setCnt1s c (after100ms s) =
      { after100ms s with dev := { s.dev with tickFlag := false, cnt100ms := 10, cnt1s := c } } := by
  rw [setCnt1s, after100ms_dev]

/-! ### HTR_CB does not read the response port -/

theorem heatingStep_respond (st : Status) (d : U32) (s : State) :
    heatingStep (s.respond st d) = (heatingStep s).respond st d := by
  simp only [heatingStep, respond_heater]
  cases heatingDiagnostic (advanceTimer s.heater) with
  | ok | ambientTimedOut | regulationTimedOut => rfl

theorem htrCbWithData_respond (st : Status) (d : U32) (s : State) :
    htrCbWithData (s.respond st d) = (htrCbWithData s).respond st d := by
  simp only [htrCbWithData, respond_heater]
  cases s.heater.state with
  | heating => exact heatingStep_respond st d s
  | uninit | off | shutdown | cooling | on | atTemperature => rfl

theorem htrCb_respond (st : Status) (d : U32) (s : State) : htrCb (s.respond st d) = (htrCb s).respond st d := by
  by_cases hi : heaterInactive s.heater = true
  · simp only [htrCb, respond_heater, hi, if_true]
  · by_cases hd : s.sensor.state = .hasData
    · simp only [htrCb, respond_heater, if_neg hi, snsStart_sensor, respond_sensor, hd, ne_eq, not_true_eq_false, if_false]
      exact htrCbWithData_respond st d (mirrorTemperature (snsStart s))
    · simp only [htrCb, respond_heater, if_neg hi, snsStart_sensor, respond_sensor, ne_eq, hd, not_false_eq_true, if_true]
      rfl

/-! ### The handlers are the operations -/

/-- The 10 ms handler is SNS_CB after `EV_10MS` (R115). -/
theorem exec_snsCb_after10ms (s : State) :
    ∃ d, exec .snsCb { s with dev := { s.dev with tickFlag := false }, trace := s.trace ++ [.ms10] } =
      .next ((after10ms s).respond .ok d) := ⟨_, rfl⟩

/-- The 100 ms handler is HTR_CB after `EV_100MS`, whatever response stands in the port (R115). -/
theorem exec_htrCb_after100ms (st : Status) (r : U32) (s : State) :
    ∃ d, exec .htrCb (((setCnt100ms 10 (after10ms s)).emit .ms100).respond st r) =
      .next ((after100ms s).respond .ok d) := by
  refine ⟨(heaterStateWord (after100ms s).heater.state).zeroExtend 32, ?_⟩
  show execHtrCb _ = _
  rw [execHtrCb, htrCb_respond]
  rfl

/-! ## The count of the cadences -/

/-- What the count of the cadences speaks of: the two counters, and how often each cadence's event stands in the trace. -/
structure Cadences where
  /-- `dev.cnt_100ms`. -/
  cnt100ms : Nat
  /-- `dev.cnt_1s`. -/
  cnt1s : Nat
  /-- The number of `EV_10MS`. -/
  ms10 : Nat
  /-- The number of `EV_100MS`. -/
  ms100 : Nat
  /-- The number of `EV_1S`. -/
  s1 : Nat

/-- The cadences of a state. -/
def cadences (s : State) : Cadences where
  cnt100ms := s.dev.cnt100ms.toNat
  cnt1s := s.dev.cnt1s.toNat
  ms10 := eventCount .ms10 s
  ms100 := eventCount .ms100 s
  s1 := eventCount .s1 s

/-- The counters are legal and no cadence has drifted: `cadencesOk_iff` ties it to the invariants. -/
def CadencesOk (b10 b100 b1 : Nat) (k : Cadences) : Prop :=
  (1 ≤ k.cnt100ms ∧ k.cnt100ms ≤ 10 ∧ 1 ≤ k.cnt1s ∧ k.cnt1s ≤ 10) ∧
    ∃ n10 n100 n1 : Nat, k.ms10 = b10 + n10 ∧ k.ms100 = b100 + n100 ∧ k.s1 = b1 + n1 ∧
      n10 + k.cnt100ms = 10 * n100 + 10 ∧ n100 + k.cnt1s = 10 * n1 + 10

theorem cadencesOk_iff (b10 b100 b1 : Nat) (s : State) :
    CadencesOk b10 b100 b1 (cadences s) ↔ CountersInv s ∧ NoDrift b10 b100 b1 s := Iff.rfl

section
variable {b10 b100 b1 : Nat} {k : Cadences}

/-- The count by division: as the counters lie in 1 to 10, they are what the divisions by 10 leave over (R119). -/
theorem CadencesOk.counts (h : CadencesOk b10 b100 b1 k) :
    k.ms100 = b100 + (k.ms10 - b10) / 10 ∧ k.s1 = b1 + (k.ms10 - b10) / 100 := by
  obtain ⟨hcounters, n10, n100, n1, h10, h100, h1, hten, hhundred⟩ := h
  omega

/-- A tick that ends after the 10 ms handler keeps the count (R112). -/
theorem CadencesOk.end10ms (h : CadencesOk b10 b100 b1 k) (hc : 2 ≤ k.cnt100ms) :
    CadencesOk b10 b100 b1 { k with cnt100ms := k.cnt100ms - 1, ms10 := k.ms10 + 1 } := by
  obtain ⟨hcounters, n10, n100, n1, h10, h100, h1, hten, hhundred⟩ := h
  simp only [CadencesOk]
  exact ⟨by omega, n10 + 1, n100, n1, by omega⟩

/-- A tick that ends after the 100 ms handler keeps the count (R113). -/
theorem CadencesOk.end100ms (h : CadencesOk b10 b100 b1 k) (hc : k.cnt100ms ≤ 1) (hd : 2 ≤ k.cnt1s) :
    CadencesOk b10 b100 b1
      { k with cnt100ms := 10, cnt1s := k.cnt1s - 1, ms10 := k.ms10 + 1, ms100 := k.ms100 + 1 } := by
  obtain ⟨hcounters, n10, n100, n1, h10, h100, h1, hten, hhundred⟩ := h
  simp only [CadencesOk]
  exact ⟨by omega, n10 + 1, n100 + 1, n1, by omega⟩

/-- A tick that ends after the 1 s handler keeps the count (R114). -/
theorem CadencesOk.end1s (h : CadencesOk b10 b100 b1 k) (hc : k.cnt100ms ≤ 1) (hd : k.cnt1s ≤ 1) :
    CadencesOk b10 b100 b1
      { cnt100ms := 10, cnt1s := 10, ms10 := k.ms10 + 1, ms100 := k.ms100 + 1, s1 := k.s1 + 1 } := by
  obtain ⟨hcounters, n10, n100, n1, h10, h100, h1, hten, hhundred⟩ := h
  simp only [CadencesOk]
  exact ⟨by omega, n10 + 1, n100 + 1, n1 + 1, by omega⟩

end

theorem eventCount_emit (e f : Event) (s : State) :
    eventCount e (s.emit f) = eventCount e s + if f = e then 1 else 0 := by
  simp [eventCount, List.count_append, List.count_singleton]

/-- Events that are no cadence's do not count. -/
theorem cadences_of_trace {s t : State} {l : List Event} (hdev : t.dev.cnt100ms = s.dev.cnt100ms ∧ t.dev.cnt1s = s.dev.cnt1s)
    (htrace : t.trace = s.trace ++ l) (hl : Event.ms10 ∉ l ∧ Event.ms100 ∉ l ∧ Event.s1 ∉ l) : cadences t = cadences s := by
  obtain ⟨h10, h100, h1⟩ := hl
  simp [cadences, eventCount, hdev, htrace, List.count_eq_zero_of_not_mem, h10, h100, h1]

@[simp] theorem cadences_respond (st : Status) (d : U32) (s : State) : cadences (s.respond st d) = cadences s := rfl

@[simp] theorem cadences_tickEvent (s : State) : cadences (tickEvent s) = cadences s :=
  cadences_of_trace ⟨rfl, rfl⟩ (tickEvent_trace s) (by simp)

@[simp] theorem cadences_pwmFreq (hz : U32) (s : State) : cadences (pwmFreq hz s) = cadences s :=
  cadences_of_trace ⟨rfl, rfl⟩ (pwmFreq_trace hz s) (by simp)

@[simp] theorem cadences_pwmDuty (p : Int) (s : State) : cadences (pwmDuty p s) = cadences s :=
  cadences_of_trace ⟨rfl, rfl⟩ (pwmDuty_trace p s) (by simp)

@[simp] theorem cadences_htrInit (s : State) : cadences (htrInit s) = cadences s := cadences_pwmDuty 0 _

@[simp] theorem cadences_snsCb (s : State) : cadences (snsCb s) = cadences s := by
  obtain ⟨l, hl⟩ := snsCb_trace s
  exact cadences_of_trace (by simp) hl (by simp)

@[simp] theorem cadences_htrCb (s : State) : cadences (htrCb s) = cadences s := by
  obtain ⟨l, hl⟩ := htrCb_trace s
  exact cadences_of_trace (by simp) hl (by simp)

@[simp] theorem cadences_htrOn (s : State) : cadences (htrOn s) = cadences s :=
  htrOn_field cadences s (cadences_htrInit s) rfl

@[simp] theorem cadences_htrOff (s : State) : cadences (htrOff s) = cadences s :=
  htrOff_field cadences s (cadences_pwmDuty 0 _)

@[simp] theorem cadences_hostWrite (a b : U32) (s : State) : cadences (hostWrite a b s) = cadences s :=
  hostWrite_field cadences a b s fun _ _ _ _ => rfl

@[simp] theorem cadences_fieldWrite (id v : U32) (s : State) : cadences (fieldWrite id v s) = cadences s :=
  fieldWrite_field cadences id v s fun _ _ _ => rfl

/-- Of the operations, only POLL and DEVINIT move the cadences (R112, R116). -/
theorem cadences_effect {i : Instr} (hdevinit : i ≠ .devinit) (hpoll : i ≠ .poll) (s : State) :
    cadences (effect i s) = cadences s := by
  cases i with
  | devinit => exact absurd rfl hdevinit
  | poll => exact absurd rfl hpoll
  | snsCb => exact cadences_snsCb s
  | htrInit => exact cadences_htrInit s
  | htrOn => exact cadences_htrOn s
  | htrOff => exact cadences_htrOff s
  | htrCb => exact cadences_htrCb s
  | pwmFreq hz => exact cadences_pwmFreq hz s
  | pwmDuty p => exact cadences_pwmDuty (s32 p) s
  | regwr a b => exact cadences_hostWrite a b s
  | cfgwr id v => exact cadences_fieldWrite id v s
  | tickq | snsInit | snsStart | pidInit | pidCompute _ _ | regrd _ | fldrd _ => rfl

/-! ### POLL -/

@[simp] theorem cadences_clearTick (s : State) : cadences (clearTick s) = cadences s := rfl

@[simp] theorem cadences_setCnt100ms (c : U8) (s : State) :
    cadences (setCnt100ms c s) = { cadences s with cnt100ms := c.toNat } := rfl

@[simp] theorem cadences_setCnt1s (c : U8) (s : State) :
    cadences (setCnt1s c s) = { cadences s with cnt1s := c.toNat } := rfl

theorem cadences_emit_ms10 (s : State) : cadences (s.emit .ms10) = { cadences s with ms10 := (cadences s).ms10 + 1 } := by
  simp [cadences, eventCount_emit]

theorem cadences_emit_ms100 (s : State) :
    cadences (s.emit .ms100) = { cadences s with ms100 := (cadences s).ms100 + 1 } := by
  simp [cadences, eventCount_emit]

theorem cadences_handler1s (s : State) : cadences (handler1s s) = { cadences s with s1 := (cadences s).s1 + 1 } := by
  simp [handler1s, cadences, eventCount_emit]

theorem cadences_after10ms (s : State) : cadences (after10ms s) = { cadences s with ms10 := (cadences s).ms10 + 1 } := by
  rw [after10ms_eq, cadences_snsCb, cadences_emit_ms10, cadences_clearTick]

theorem cadences_after100ms (s : State) :
    cadences (after100ms s) =
      { cadences s with
        cnt100ms := 10, ms10 := (cadences s).ms10 + 1, ms100 := (cadences s).ms100 + 1 } := by
  rw [after100ms_eq, cadences_htrCb, cadences_emit_ms100, cadences_setCnt100ms, cadences_after10ms]
  rfl

/-- Each stage of POLL counts its own event and takes 1 from its counter, or reloads it and hands on to the next stage (R112 to
R114). -/
theorem poll_cadencesOk {b10 b100 b1 : Nat} {s : State} (h : CadencesOk b10 b100 b1 (cadences s)) :
    CadencesOk b10 b100 b1 (cadences (poll s).2) := by
  obtain ⟨⟨hlo, -, hlo', -⟩, -⟩ := (cadencesOk_iff ..).mp h
  obtain ⟨-, hp⟩ | ⟨-, ⟨hc, hp⟩ | ⟨hc, ⟨hd, hp⟩ | ⟨hd, hp⟩⟩⟩ := poll_cases s
  · rwa [hp]
  · rw [hp, cadences_setCnt100ms, cadences_after10ms, dec_toNat _ hlo]
    exact h.end10ms hc
  · rw [hp, cadences_setCnt1s, cadences_after100ms, dec_toNat _ hlo']
    exact h.end100ms hc hd
  · rw [hp, cadences_handler1s, cadences_setCnt1s, cadences_after100ms]
    exact h.end1s hc hd

theorem exec_cadencesOk {i : Instr} (hi : i ≠ .devinit) {b10 b100 b1 : Nat} {s t : State}
    (h : CadencesOk b10 b100 b1 (cadences s)) (he : exec i s = .next t) : CadencesOk b10 b100 b1 (cadences t) := by
  obtain ⟨st, d, rfl⟩ := eq_respond_effect he
  rw [cadences_respond]
  by_cases hpoll : i = .poll
  · subst hpoll; exact poll_cadencesOk h
  · rwa [cadences_effect hi hpoll]

theorem nextIsDevinit_of_inputs {s : State} {w : CmdWord} {rest : List Input} (h : s.inputs = .command w :: rest)
    (hd : decode w = .instr .devinit) : NextIsDevinit s := by
  simp [NextIsDevinit, fetch, h, hd]

/-- A step that is no DEVINIT keeps the count, by what is next in the run. -/
theorem step_cadencesOk {b10 b100 b1 : Nat} {s t : State} (h : CadencesOk b10 b100 b1 (cadences s)) (hnext : ¬ NextIsDevinit s)
    (hstep : step s = .next t) : CadencesOk b10 b100 b1 (cadences t) := by
  obtain ⟨-, hidle⟩ | ⟨rest, -, htick⟩ | ⟨w, rest, i, hin, hd, hexec⟩ | ⟨w, rest, op, -, -, hillegal⟩ := step_cases s
  · rw [hidle] at hstep; cases hstep; exact h
  · rw [htick] at hstep; cases hstep
    rw [cadences_tickEvent]; exact h
  · rw [hexec] at hstep
    have hi : i ≠ .devinit := fun hi => hnext (nextIsDevinit_of_inputs hin (hi ▸ hd))
    have hrest : CadencesOk b10 b100 b1 (cadences { s with inputs := rest }) := h
    exact exec_cadencesOk hi hrest hstep
  · rw [hillegal] at hstep; cases hstep; exact h

/-! ## DEVINIT -/

/-- The next state of DEVINIT, the top-value and the frequency as PWM_FREQ computes them (R116). -/
theorem exec_devinit (s : State) :
    exec .devinit s =
      .next { s with
        dev := { tickFlag := false, cnt100ms := 10, cnt1s := 10,
                 pwmFreq := pwmFreqFor s.cfg (pwmTopFor s.cfg s.cfg.pwmFreqHz) }
        pwm := { top := pwmTopFor s.cfg s.cfg.pwmFreqHz, compare := 0, mode := .off }
        sensor := sensorInitial s.cfg
        pid := pidInitial s.cfg
        heater := heaterInitial s.cfg s.heater
        trace := s.trace ++ [.pwm s.pwm.mode (pwmTopFor s.cfg s.cfg.pwmFreqHz) s.pwm.compare,
          .pwm .off (pwmTopFor s.cfg s.cfg.pwmFreqHz) 0, .pwm .off (pwmTopFor s.cfg s.cfg.pwmFreqHz) 0]
        rsp := some ⟨.ok, 0⟩ } := by
  have htrace : (devInit s).trace = s.trace ++ [.pwm s.pwm.mode (pwmTopFor s.cfg s.cfg.pwmFreqHz) s.pwm.compare,
      .pwm .off (pwmTopFor s.cfg s.cfg.pwmFreqHz) 0, .pwm .off (pwmTopFor s.cfg s.cfg.pwmFreqHz) 0] := by
    simp [devInit, pwmModeFor, pwmCompareFor]
  rw [← htrace]
  rfl

/-! ## The obligations -/

/-- Settles O8: the step's case of a TICK event. -/
theorem tickEventStep : Obligations.TickEvent := fun _ _ h => step_of_inputs_tick h

/-- Settles O13: the flag's image as the answer of TICKQ. -/
theorem tickqResult : Obligations.TickqResult := by
  intro s
  rw [← zeroExtend_ofBool]
  rfl

/-- Settles O14: the case of POLL with the flag clear. -/
theorem pollWithoutTick : Obligations.PollWithoutTick := by
  intro s hf
  have hp : poll s = (0, s) := if_neg (by simp [hf])
  exact exec_poll_of_poll_eq hp

/-- Settles O15: the handlers are the two callbacks after their events, and each end of POLL is one of `poll_of_pending`. -/
theorem pollServicesTick : Obligations.PollServicesTick := by
  rintro s hf ⟨hlo, -, hlo', -⟩
  obtain ⟨hend10ms, hend100ms, hend1s⟩ := poll_of_pending hf
  obtain ⟨d, hsns⟩ := exec_snsCb_after10ms s
  obtain ⟨d', hhtr⟩ := exec_htrCb_after100ms .ok d s
  rw [setCnt100ms_after10ms] at hhtr
  refine ⟨_, hsns, fun hc => ?_, fun hc => ⟨_, hhtr, fun hd => ?_, fun hd => ?_⟩⟩
  · have hdec := dec_toNat s.dev.cnt100ms hlo
    refine ⟨dec s.dev.cnt100ms, by omega, ?_⟩
    rw [exec_poll_of_poll_eq (hend10ms hc), setCnt100ms_after10ms]
    rfl
  · have hdec := dec_toNat s.dev.cnt1s hlo'
    refine ⟨dec s.dev.cnt1s, by omega, ?_⟩
    rw [exec_poll_of_poll_eq (hend100ms hc.le hd), setCnt1s_after100ms]
    rfl
  · rw [exec_poll_of_poll_eq (hend1s hc.le hd.le), setCnt1s_after100ms]
    rfl

/-- Settles O16: `run_ticks` for the merged ticks; POLL leaves the flag clear, so the next one is the no-op of O14. -/
theorem lostTicks : Obligations.LostTicks := by
  intro n s rest hn hin
  obtain ⟨m, rfl⟩ : ∃ m, n = m + 1 := ⟨n - 1, by omega⟩
  exact ⟨_, run_ticks m hin, rfl, _, rfl, poll_tickFlag _, pollWithoutTick _ (poll_tickFlag _)⟩

/-- Settles O17: the step keeps the counters and the count together, and the count gives the two divisions. -/
theorem stepKeepsNoDrift : Obligations.StepKeepsNoDrift := by
  intro b10 b100 b1 s t hcounters hcount hnext hstep
  have ht := step_cadencesOk ((cadencesOk_iff ..).mpr ⟨hcounters, hcount⟩) hnext hstep
  obtain ⟨hcounters', hcount'⟩ := (cadencesOk_iff ..).mp ht
  exact ⟨hcounters', hcount', ht.counts⟩

/-- Settles O19: the next state of `exec_devinit`, its top-value and frequency by the laws of PWM_FREQ. -/
theorem devinitResult : Obligations.DevinitResult := by
  intro s hwf
  obtain ⟨-, -, hmin, -⟩ := (wellFormed_iff s.cfg).mp hwf
  have htop := pwmTopFor_range hwf s.cfg.pwmFreqHz
  refine ⟨_, _, ?_, pwmFreqFor_toNat hwf (top := pwmTopFor s.cfg s.cfg.pwmFreqHz) (by omega), exec_devinit s⟩
  rw [pwmTopFor_toNat hwf, pwmTopRaw_eq hwf]

end Sys2Proof.Machine
end

section
/-! PROOFS. SNS_INIT, SNS_START and SNS_CB (41_sensor.md R130 to R139): O23 to O31. SNS_CB is first reduced to what it makes of the
sensor with the sample it accepts, and that to one equation per row of R134 to R139; a period is then an induction over its samples. -/

namespace Sys2Proof.Machine

/-! ## Taking a sample, by the rows of R134 to R139 -/

/-- A sample above `CFG_SNS_SUN` is not accumulated (R136 (b)). -/
theorem takeSample_of_sun {c : Cfg} {v : S32} (x : Sensor) (h : c.snsSun.toInt < v.toInt) :
    takeSample c v x = snsShutdown x := if_pos h

section
variable {c : Cfg} {v : S32} {x : Sensor}

/-- A sample that leaves the period in progress is only accumulated (R137). -/
theorem takeSample_of_lt (hsun : v.toInt ≤ c.snsSun.toInt) (hlt : x.samples.toNat + 1 < x.spr.toNat) :
    takeSample c v x = accumulate v x := by
  have hcount := accumulate_samples v x (by omega)
  obtain ⟨habove, -⟩ | ⟨-, -, h⟩ | ⟨-, hdone, -⟩ := takeSample_cases c v x
  · exact absurd habove (not_lt.mpr hsun)
  · exact h
  · rw [BitVec.lt_def, hcount] at hdone; omega

/-- A sample that completes the period is accumulated, and the period is classified (R138). -/
theorem takeSample_of_eq (hsun : v.toInt ≤ c.snsSun.toInt) (hlast : x.samples.toNat + 1 = x.spr.toNat) :
    takeSample c v x = complete (accumulate v x) := by
  have hcount := accumulate_samples v x (by omega)
  obtain ⟨habove, -⟩ | ⟨-, hlt, -⟩ | ⟨-, -, h⟩ := takeSample_cases c v x
  · exact absurd habove (not_lt.mpr hsun)
  · rw [BitVec.lt_def, hcount] at hlt; omega
  · exact h

/-! ## The sum and the mean are exact -/

/-- The sum of R135, the first sample of a period or a later one, has no overflow (R45). -/
theorem accumulate_accumulator (v : S32) (hx : PeriodSafe x) (hlt : x.samples.toNat < x.spr.toNat) :
    (accumulate v x).accumulator.toInt = sumWith x v := by
  unfold sumWith
  by_cases h : x.samples = 0
  · rw [if_pos h]; exact accumulate_accumulator_first v h
  · rw [if_neg h]; exact accumulate_accumulator_next v h hx hlt

/-- The last sample brings the count to `sensor.spr`. -/
theorem accumulate_samples_last (v : S32) (hlast : x.samples.toNat + 1 = x.spr.toNat) :
    (accumulate v x).samples = x.spr :=
  BitVec.eq_of_toNat_eq ((accumulate_samples v x (by omega)).trans hlast)

/-- The sensor with the last sample of a period in it, field by field. -/
theorem accumulate_of_last (v : S32) (hlast : x.samples.toNat + 1 = x.spr.toNat) :
    accumulate v x = { x with accumulator := (accumulate v x).accumulator, previous := v, samples := x.spr } := by
  calc accumulate v x
      = { x with accumulator := (accumulate v x).accumulator, previous := v, samples := (accumulate v x).samples } := rfl
    _ = _ := by rw [accumulate_samples_last v hlast]

theorem periodMean_eq (h : x.spr.toNat ≠ 0) : periodMean x = Int.tdiv x.accumulator.toInt x.spr.toNat :=
  tdiv_of_ne_zero _ (by omega)

/-- The mean of a complete period of S32 samples is an S32 value (R138). -/
theorem periodMean_range (hx : PeriodSafe x) (hfull : x.samples = x.spr) (h : x.spr.toNat ≠ 0) :
    -2147483648 ≤ periodMean x ∧ periodMean x ≤ 2147483647 := by
  have hpos : (0 : Int) < x.spr.toNat := by omega
  obtain ⟨-, hbounds⟩ := hx
  rw [hfull] at hbounds
  obtain ⟨hlo, hhi⟩ := hbounds h
  rw [periodMean_eq h]
  constructor
  · calc (-2147483648 : Int) = Int.tdiv (x.spr.toNat * -2147483648) x.spr.toNat :=
          (Int.mul_tdiv_cancel_left _ hpos.ne').symm
      _ ≤ _ := Int.tdiv_le_tdiv hpos (by omega)
  · calc Int.tdiv x.accumulator.toInt x.spr.toNat ≤ Int.tdiv (x.spr.toNat * 2147483647) x.spr.toNat :=
          Int.tdiv_le_tdiv hpos (by omega)
      _ = 2147483647 := Int.mul_tdiv_cancel_left _ hpos.ne'

/-- The mean as its S32 pattern loses nothing (R138). -/
theorem u32_periodMean_toInt (hx : PeriodSafe x) (hfull : x.samples = x.spr) (h : x.spr.toNat ≠ 0) :
    (u32 (periodMean x)).toInt = periodMean x :=
  have hrange := periodMean_range hx hfull h
  s32_u32 hrange.1 hrange.2

/-! ## Completing a period, by the outcomes of R139 -/

/-- The disconnect threshold is compared first (R139). -/
theorem complete_of_disconnected (h : x.disconnectTemperature.toInt < periodMean x) :
    complete x = { x with state := .hasNoData, code := .disconnected } := by
  have hc : classify x (periodMean x) = (.hasNoData, .disconnected) := if_pos h
  simp [complete, hc]

/-- The no-power threshold is compared second (R139). -/
theorem complete_of_noPower (hdis : periodMean x ≤ x.disconnectTemperature.toInt)
    (h : periodMean x < x.nopowerTemperature.toInt) :
    complete x = { x with state := .hasNoData, code := .noPower } := by
  have hc : classify x (periodMean x) = (.hasNoData, .noPower) := (if_neg (not_lt.mpr hdis)).trans (if_pos h)
  simp [complete, hc]

/-- Only a mean within both thresholds becomes the temperature (R139). -/
theorem complete_of_hasData (hdis : periodMean x ≤ x.disconnectTemperature.toInt)
    (h : x.nopowerTemperature.toInt ≤ periodMean x) :
    complete x = { x with state := .hasData, code := .ok, temperature := u32 (periodMean x) } := by
  have hc : classify x (periodMean x) = (.hasData, .ok) := (if_neg (not_lt.mpr hdis)).trans (if_neg (not_lt.mpr h))
  simp [complete, hc]

/-- The three outcomes of a completed period together, each with what it leaves of the temperature (R139). -/
theorem complete_outcomes (hfit : (u32 (periodMean x)).toInt = periodMean x) :
    (x.disconnectTemperature.toInt < periodMean x →
      (complete x).state = .hasNoData ∧ (complete x).code = .disconnected ∧ (complete x).temperature = x.temperature) ∧
    (periodMean x ≤ x.disconnectTemperature.toInt → periodMean x < x.nopowerTemperature.toInt →
      (complete x).state = .hasNoData ∧ (complete x).code = .noPower ∧ (complete x).temperature = x.temperature) ∧
    (periodMean x ≤ x.disconnectTemperature.toInt → x.nopowerTemperature.toInt ≤ periodMean x →
      (complete x).state = .hasData ∧ (complete x).code = .ok ∧ (complete x).temperature.toInt = periodMean x) := by
  refine ⟨fun hdis => ?_, fun hdis hpower => ?_, fun hdis hpower => ?_⟩
  · simp [complete_of_disconnected hdis]
  · simp [complete_of_noPower hdis hpower]
  · simp [complete_of_hasData hdis hpower, hfit]

end

/-! ## SNS_CB, by what `Acquire()` answers -/

/-- SNS_CB is its state change, and answers the sensor state it leaves (R134). -/
theorem exec_snsCb_of_eq {s t : State} (h : snsCb s = t) :
    exec .snsCb s = .next (t.respond .ok ((sensorStateWord t.sensor.state).zeroExtend 32)) := by
  subst h; rfl

theorem snsCb_of_not_sampling {s : State} (h : ¬ Sampling s.sensor) : snsCb s = s :=
  if_pos (by simpa using mt (snsIdle_eq_false s.sensor).1 h)

theorem not_snsIdle_of_sampling {x : Sensor} (h : Sampling x) : ¬ snsIdle x = true := by
  simp [(snsIdle_eq_false x).2 h]

/-- With the accepted sample, SNS_CB draws the answers up to it and takes it (R132, R134). -/
theorem snsCb_of_accepts {s : State} {k : Nat} (hs : Sampling s.sensor) (hk : Accepts s k) :
    snsCb s = { afterDraws (k + 1) s with sensor := takeSample s.cfg (sampleAnswer s k) s.sensor } := by
  unfold snsCb
  rw [if_neg (not_snsIdle_of_sampling hs), acquire_accepts s k hk]
  rfl

/-- With the retry budget exhausted, SNS_CB draws every answer of it and shuts the sensor down (R132, R136 (a)). -/
theorem snsCb_of_rejects {s : State} (hs : Sampling s.sensor) (h0 : s.sensor.samples ≠ 0)
    (hr : ∀ k ≤ s.sensor.retries.toNat, Rejected s k) :
    snsCb s = { afterDraws (s.sensor.retries.toNat + 1) s with sensor := snsShutdown s.sensor } := by
  unfold snsCb
  rw [if_neg (not_snsIdle_of_sampling hs), acquire_rejects s h0 hr]
  rfl

/-- SNS_CB by the sensor `x` that taking the accepted sample makes. -/
theorem exec_snsCb_of_takeSample {s : State} {k : Nat} {x : Sensor} (hs : Sampling s.sensor) (hk : Accepts s k)
    (hx : takeSample s.cfg (sampleAnswer s k) s.sensor = x) :
    exec .snsCb s =
      .next { afterDraws (k + 1) s with sensor := x, rsp := some ⟨.ok, (sensorStateWord x.state).zeroExtend 32⟩ } := by
  subst hx
  exact exec_snsCb_of_eq (snsCb_of_accepts hs hk)

/-! ## The obligations on one operation -/

/-- Settles O23: the sensor of `sensorInitial`, written out. -/
theorem snsInitResult : Obligations.SnsInitResult := fun _ => rfl

/-- Settles O24: the count is already 0 in the second of two. -/
theorem snsStartResult : Obligations.SnsStartResult := fun _ => ⟨_, rfl, rfl, rfl⟩

/-- Settles O25: the idle case of SNS_CB. -/
theorem snsCbIdle : Obligations.SnsCbIdle := fun _ h => exec_snsCb_of_eq (snsCb_of_not_sampling h)

/-- Settles O26: the accepted sample meets the first row of `takeSample`. -/
theorem snsCbSunShutdown : Obligations.SnsCbSunShutdown := fun s _ hs hk hsun =>
  exec_snsCb_of_takeSample hs hk (takeSample_of_sun s.sensor hsun)

/-- Settles O27: the accepted sample meets the second row of `takeSample`, and the accumulator holds the exact sum. -/
theorem snsCbMidPeriod : Obligations.SnsCbMidPeriod := by
  intro s k hinv hs hk hsun hlt
  have hroom : s.sensor.samples.toNat < s.sensor.spr.toNat := by omega
  exact ⟨_, _, accumulate_accumulator (sampleAnswer s k) hinv hroom, accumulate_samples (sampleAnswer s k) s.sensor hroom,
    exec_snsCb_of_takeSample hs hk (takeSample_of_lt hsun hlt)⟩

/-- Settles O28: the accepted sample meets the third row of `takeSample`; the mean of the accumulated period is `meanWith`, an S32
value, and its outcome is one of the three of `complete`. -/
theorem snsCbCompletesPeriod : Obligations.SnsCbCompletesPeriod := by
  intro s k hinv hs hk hsun hlast
  have hroom : s.sensor.samples.toNat < s.sensor.spr.toNat := by omega
  have hspr : s.sensor.spr.toNat ≠ 0 := by omega
  have hsum := accumulate_accumulator (sampleAnswer s k) hinv hroom
  have hsafe := accumulate_periodSafe (sampleAnswer s k) hinv hroom
  have htake := takeSample_of_eq hsun hlast
  rw [accumulate_of_last _ hlast] at htake hsafe
  have hmean := u32_periodMean_toInt hsafe rfl hspr
  refine ⟨_, _, hsum, hmean.trans ?_, ?_⟩
  · exact Eq.trans (periodMean_eq hspr) (congrArg (Int.tdiv · s.sensor.spr.toNat) hsum)
  · rw [hmean]
    split
    case isTrue hdis => exact exec_snsCb_of_takeSample hs hk (htake.trans (complete_of_disconnected hdis))
    case isFalse hdis =>
      rw [not_lt] at hdis
      split
      case isTrue hpower => exact exec_snsCb_of_takeSample hs hk (htake.trans (complete_of_noPower hdis hpower))
      case isFalse hpower =>
        rw [not_lt] at hpower
        exact exec_snsCb_of_takeSample hs hk (htake.trans (complete_of_hasData hdis hpower))

/-- Settles O29: the case of SNS_CB in which `Acquire()` fails. -/
theorem snsCbRetriesExhausted : Obligations.SnsCbRetriesExhausted := fun _ hs h0 hr =>
  exec_snsCb_of_eq (snsCb_of_rejects hs h0 hr)

/-! ## A period of samples -/

/-- The period that starts at `s` accepts every sample at the first draw: each lies within the variance threshold of the one before
it (R132) and none lies above the sun sentinel (R136). -/
structure SteadyPeriod (s : State) : Prop where
  active : s.sensor.state = .hasNoData ∨ s.sensor.state = .hasData
  start : s.sensor.samples = 0
  sun : ∀ j < s.sensor.spr.toNat, (sampleAnswer s j).toInt ≤ s.cfg.snsSun.toInt
  steady : ∀ j, j + 1 < s.sensor.spr.toNat →
    |(sampleAnswer s (j + 1)).toInt - (sampleAnswer s j).toInt| ≤ s.sensor.variance.toInt

/-- The sensor of `s` once the first `j` answers of the sample source are accumulated. -/
def sensorAfter (s : State) : Nat → Sensor
  | 0 => s.sensor
  | j + 1 => accumulate (sampleAnswer s j) (sensorAfter s j)

/-- `s` in mid-period: `j` samples drawn and accumulated, `l` still to be run. `run_period` ties it to the run. -/
def inPeriod (s : State) (j : Nat) (l : List Input) (r : Option Response) : State :=
  { afterDraws j s with sensor := sensorAfter s j, inputs := l, rsp := r }

theorem inPeriod_zero (s : State) : inPeriod s 0 s.inputs s.rsp = s := by
  rw [inPeriod, afterDraws_zero]; rfl

/-- Closes a field of the sensor that accumulating leaves. -/
theorem sensorAfter_field {α : Sort _} (f : Sensor → α) (hf : ∀ v x, f (accumulate v x) = f x) (s : State) (j : Nat) :
    f (sensorAfter s j) = f s.sensor := by
  induction j with
  | zero => rfl
  | succ j ih => exact (hf _ _).trans ih

@[simp] theorem sensorAfter_spr (s : State) (j : Nat) : (sensorAfter s j).spr = s.sensor.spr :=
  sensorAfter_field Sensor.spr accumulate_spr s j
@[simp] theorem sensorAfter_state (s : State) (j : Nat) : (sensorAfter s j).state = s.sensor.state :=
  sensorAfter_field Sensor.state accumulate_state s j
@[simp] theorem sensorAfter_temperature (s : State) (j : Nat) : (sensorAfter s j).temperature = s.sensor.temperature :=
  sensorAfter_field Sensor.temperature accumulate_temperature s j
@[simp] theorem sensorAfter_variance (s : State) (j : Nat) : (sensorAfter s j).variance = s.sensor.variance :=
  sensorAfter_field Sensor.variance (fun _ _ => rfl) s j
@[simp] theorem sensorAfter_disconnect (s : State) (j : Nat) :
    (sensorAfter s j).disconnectTemperature = s.sensor.disconnectTemperature :=
  sensorAfter_field Sensor.disconnectTemperature (fun _ _ => rfl) s j
@[simp] theorem sensorAfter_nopower (s : State) (j : Nat) :
    (sensorAfter s j).nopowerTemperature = s.sensor.nopowerTemperature :=
  sensorAfter_field Sensor.nopowerTemperature (fun _ _ => rfl) s j

section
variable {s : State} {j : Nat}

theorem sensorAfter_samples (hp : SteadyPeriod s) (hj : j ≤ s.sensor.spr.toNat) : (sensorAfter s j).samples.toNat = j := by
  induction j with
  | zero => simp [sensorAfter, hp.start]
  | succ j ih =>
    have hcount := ih (by omega)
    have hroom : (sensorAfter s j).samples.toNat < (sensorAfter s j).spr.toNat := by rw [hcount, sensorAfter_spr]; omega
    exact (accumulate_samples _ _ hroom).trans (by rw [hcount])

/-- Before the period is complete there is room for a sample. -/
theorem sensorAfter_room (hp : SteadyPeriod s) (hj : j < s.sensor.spr.toNat) :
    (sensorAfter s j).samples.toNat < (sensorAfter s j).spr.toNat := by
  rw [sensorAfter_samples hp hj.le, sensorAfter_spr]; exact hj

theorem sensorAfter_periodSafe (hp : SteadyPeriod s) (hj : j ≤ s.sensor.spr.toNat) : PeriodSafe (sensorAfter s j) := by
  induction j with
  | zero => exact periodSafe_of_samples_eq_zero hp.start
  | succ j ih => exact accumulate_periodSafe _ (ih (by omega)) (sensorAfter_room hp hj)

/-- The accumulator of the next state holds the sum by R135. -/
theorem sensorAfter_succ_accumulator (hp : SteadyPeriod s) (hj : j < s.sensor.spr.toNat) :
    (sensorAfter s (j + 1)).accumulator.toInt = sumWith (sensorAfter s j) (sampleAnswer s j) :=
  accumulate_accumulator _ (sensorAfter_periodSafe hp hj.le) (sensorAfter_room hp hj)

/-- After the first sample the count is not 0, so that the accumulator is added to (R135). -/
theorem sensorAfter_samples_ne_zero (hp : SteadyPeriod s) (hj : j < s.sensor.spr.toNat) :
    (sensorAfter s (j + 1)).samples ≠ 0 := fun h => by
  have hcount := sensorAfter_samples hp hj
  simp [h] at hcount

theorem sumWith_sensorAfter (hp : SteadyPeriod s) (hj : j < s.sensor.spr.toNat) :
    sumWith (sensorAfter s j) (sampleAnswer s j) = ((List.range (j + 1)).map fun i => (sampleAnswer s i).toInt).sum := by
  induction j with
  | zero => simp [sumWith, sensorAfter, hp.start]
  | succ j ih =>
    have hj' : j < s.sensor.spr.toNat := by omega
    rw [sumWith, if_neg (sensorAfter_samples_ne_zero hp hj'), sensorAfter_succ_accumulator hp hj', ih hj',
      List.range_succ (n := j + 1), List.map_append, List.sum_append, List.map_singleton, List.sum_singleton]

/-- The accumulator holds the sum of the period's samples so far (R45). -/
theorem sensorAfter_accumulator (hp : SteadyPeriod s) (hj : j < s.sensor.spr.toNat) :
    (sensorAfter s (j + 1)).accumulator.toInt = ((List.range (j + 1)).map fun i => (sampleAnswer s i).toInt).sum :=
  (sensorAfter_succ_accumulator hp hj).trans (sumWith_sensorAfter hp hj)

/-! ## The callbacks of a period -/

theorem sampling_inPeriod (hp : SteadyPeriod s) (hj : j < s.sensor.spr.toNat) : Sampling (sensorAfter s j) := by
  refine ⟨?_, ?_, sensorAfter_room hp hj⟩
  · obtain h | h := hp.active <;> simp [h]
  · obtain h | h := hp.active <;> simp [h]

theorem sampleAnswer_inPeriod (s : State) (j : Nat) (l : List Input) (r : Option Response) :
    sampleAnswer (inPeriod s j l r) 0 = sampleAnswer s j := sampleAnswer_afterDraws j 0 s

theorem accepts_inPeriod (hp : SteadyPeriod s) (hj : j < s.sensor.spr.toNat) (l : List Input) (r : Option Response) :
    Accepts (inPeriod s j l r) 0 := by
  cases j with
  | zero => exact .inl ⟨hp.start, rfl⟩
  | succ j =>
    have hok : ¬ Rejected (inPeriod s (j + 1) l r) 0 := by
      rw [Rejected, sampleAnswer_inPeriod, not_lt]
      show _ ≤ (sensorAfter s (j + 1)).variance.toInt
      rw [sensorAfter_variance]
      exact hp.steady j hj
    exact .inr ⟨sensorAfter_samples_ne_zero hp (by omega), Nat.zero_le _, fun _ h => absurd h (Nat.not_lt_zero _), hok⟩

/-- The command word of SNS_CB, next in the period, takes the next answer. -/
theorem step_inPeriod (hp : SteadyPeriod s) (hj : j < s.sensor.spr.toNat) (l : List Input) (r : Option Response)
    {x : Sensor} (hx : takeSample s.cfg (sampleAnswer s j) (sensorAfter s j) = x) :
    step (inPeriod s j (.command 0x12_00000000_00000000 :: l) r) =
      .next { afterDraws (j + 1) s with
        sensor := x, inputs := l, rsp := some ⟨.ok, (sensorStateWord x.state).zeroExtend 32⟩ } := by
  have hstep : step (inPeriod s j (.command 0x12_00000000_00000000 :: l) r) = exec .snsCb (inPeriod s j l r) :=
    step_of_command_instr rfl (by decide)
  have hdraw : afterDraws 1 (afterDraws j s) = afterDraws (j + 1) s :=
    congrArg Prod.snd ((drawSample_eq _).symm.trans (drawSample_afterDraws j s))
  rw [← sampleAnswer_inPeriod s j l r] at hx
  rw [hstep, exec_snsCb_of_takeSample (s := inPeriod s j l r) (sampling_inPeriod hp hj) (accepts_inPeriod hp hj l r) hx,
    ← hdraw]
  rfl

/-- The callbacks that are left of a period complete it: all but the last are in mid-period (R137, R138). -/
theorem run_period (hp : SteadyPeriod s) (m : Nat) (hm : j + m + 1 = s.sensor.spr.toNat) (r : Option Response) :
    ∃ r', Host.Core.run core (m + 1) (inPeriod s j (List.replicate (m + 1) (.command 0x12_00000000_00000000)) r) =
      .next { afterDraws s.sensor.spr.toNat s with
        sensor := complete (sensorAfter s s.sensor.spr.toNat), inputs := [], rsp := r' } := by
  have hj : j < s.sensor.spr.toNat := by omega
  have hcount := sensorAfter_samples hp hj.le
  have hspr : (sensorAfter s j).spr.toNat = s.sensor.spr.toNat := by rw [sensorAfter_spr]
  induction m generalizing j r with
  | zero =>
    have hlast : (sensorAfter s j).samples.toNat + 1 = (sensorAfter s j).spr.toNat := by omega
    rw [← hm]
    exact ⟨_, run_succ 0 (step_inPeriod hp hj [] r (takeSample_of_eq (hp.sun j hj) hlast))⟩
  | succ m ih =>
    have hlt : (sensorAfter s j).samples.toNat + 1 < (sensorAfter s j).spr.toNat := by omega
    have hj' : j + 1 < s.sensor.spr.toNat := by omega
    rw [List.replicate_succ, run_succ (m + 1) (step_inPeriod hp hj _ r (takeSample_of_lt (hp.sun j hj) hlt))]
    exact ih (j := j + 1) (by omega) _ hj' (sensorAfter_samples hp hj'.le) (by rw [sensorAfter_spr])

end

/-- Settles O30: `run_period` from the first sample on; the mean of the complete period is that of its samples, and its outcome is
one of the three of `complete`. -/
theorem fullPeriodGivesMean : Obligations.FullPeriodGivesMean := by
  intro s n hactive hstart hspr hn hinputs hsun hsteady
  subst hspr
  have hp : SteadyPeriod s := ⟨hactive, hstart, hsun, hsteady⟩
  obtain ⟨m, hm⟩ : ∃ m, m + 1 = s.sensor.spr.toNat := ⟨s.sensor.spr.toNat - 1, by omega⟩
  obtain ⟨r, hrun⟩ := run_period hp (j := 0) m (by omega) s.rsp
  rw [hm, ← hinputs, inPeriod_zero] at hrun
  have hcount := sensorAfter_samples hp le_rfl
  have hsum := sensorAfter_accumulator hp (j := m) (by omega)
  have hsafe := sensorAfter_periodSafe hp le_rfl
  rw [hm] at hsum
  have hfull : (sensorAfter s s.sensor.spr.toNat).samples = (sensorAfter s s.sensor.spr.toNat).spr := by
    rw [sensorAfter_spr]; exact BitVec.eq_of_toNat_eq hcount
  have hne : (sensorAfter s s.sensor.spr.toNat).spr.toNat ≠ 0 := by rw [sensorAfter_spr]; omega
  have hmean := periodMean_eq hne
  rw [hsum, sensorAfter_spr] at hmean
  refine ⟨_, hrun, hfull.trans (sensorAfter_spr _ _), rfl, ?_⟩
  rintro _ rfl
  rw [← hmean, ← sensorAfter_disconnect s s.sensor.spr.toNat, ← sensorAfter_nopower s s.sensor.spr.toNat,
    ← sensorAfter_temperature s s.sensor.spr.toNat]
  exact complete_outcomes (u32_periodMean_toInt hsafe hfull hne)

/-! ## Transitions of the sensor state -/

/-- What a callback can do to the sensor's state and code: leave them, or, while sampling, one of the table's outcomes (R140). -/
def SensorCallback (before after : Sensor) : Prop :=
  (after.state = before.state ∧ after.code = before.code) ∨
    (Sampling before ∧
      ((after.state = .shutdown ∧ after.code = .badReadings) ∨ (after.state = .hasNoData ∧ after.code = .disconnected) ∨
        (after.state = .hasNoData ∧ after.code = .noPower) ∨ (after.state = .hasData ∧ after.code = .ok)))

/-- Of the sensor's fields the table speaks of state and code only. -/
theorem SensorCallback.congr {x y z : Sensor} (h : SensorCallback x y) (hstate : z.state = y.state) (hcode : z.code = y.code) :
    SensorCallback x z := by
  rwa [SensorCallback, hstate, hcode]

theorem takeSample_transition (c : Cfg) (v : S32) {x : Sensor} (hx : Sampling x) : SensorCallback x (takeSample c v x) := by
  obtain ⟨-, h⟩ | ⟨-, -, h⟩ | ⟨-, -, h⟩ := takeSample_cases c v x
  · rw [h]; exact .inr ⟨hx, .inl ⟨rfl, rfl⟩⟩
  · rw [h]; exact .inl ⟨rfl, rfl⟩
  · rw [h]
    obtain ⟨-, hc⟩ | ⟨-, -, hc⟩ | ⟨-, -, hc⟩ := classify_cases (accumulate v x) (periodMean (accumulate v x))
    · exact .inr ⟨hx, .inr (.inl (by simp [complete, hc]))⟩
    · exact .inr ⟨hx, .inr (.inr (.inl (by simp [complete, hc])))⟩
    · exact .inr ⟨hx, .inr (.inr (.inr (by simp [complete, hc])))⟩

theorem snsCb_transition (s : State) : SensorCallback s.sensor (snsCb s).sensor := by
  obtain ⟨-, h⟩ | ⟨hidle, h⟩ := snsCb_sensor s
  · rw [h]; exact .inl ⟨rfl, rfl⟩
  · have hs : Sampling s.sensor := (snsIdle_eq_false s.sensor).1 hidle
    obtain h | ⟨v, h⟩ := h
    · rw [h]; exact .inr ⟨hs, .inl ⟨rfl, rfl⟩⟩
    · rw [h]; exact takeSample_transition s.cfg v hs

/-- HTR_CB moves the sensor's count only (R174). -/
theorem htrCb_diagnostic (s : State) :
    (htrCb s).sensor.state = s.sensor.state ∧ (htrCb s).sensor.code = s.sensor.code := by
  obtain ⟨-, h⟩ | ⟨-, h⟩ := htrCb_sensor s
  · rw [h]; exact ⟨rfl, rfl⟩
  · rw [h]; exact ⟨rfl, rfl⟩

/-- POLL performs one SNS_CB, and after it at most one HTR_CB (R115). -/
theorem poll_transition (s : State) : SensorCallback s.sensor (poll s).2.sensor := by
  have h10ms : SensorCallback s.sensor (after10ms s).sensor := snsCb_transition ((clearTick s).emit .ms10)
  have h100ms : SensorCallback s.sensor (after100ms s).sensor := by
    obtain ⟨hstate, hcode⟩ := htrCb_diagnostic ((setCnt100ms 10 (after10ms s)).emit .ms100)
    exact h10ms.congr hstate hcode
  obtain ⟨-, hp⟩ | ⟨-, ⟨-, hp⟩ | ⟨-, ⟨-, hp⟩ | ⟨-, hp⟩⟩⟩ := poll_cases s
  · rw [hp]; exact .inl ⟨rfl, rfl⟩
  · rw [hp]; exact h10ms
  · rw [hp]; exact h100ms
  · rw [hp]; exact h100ms

/-- Neither state nor code of the sensor is a cfg field (R206). -/
theorem fieldWrite_diagnostic (id v : U32) (s : State) :
    (fieldWrite id v s).sensor.state = s.sensor.state ∧ (fieldWrite id v s).sensor.code = s.sensor.code := by
  refine fieldWrite_induction (P := fun t => t.sensor.state = s.sensor.state ∧ t.sensor.code = s.sensor.code) id v s
    ⟨rfl, rfl⟩ fun f => ?_
  obtain he | ⟨h, he, -⟩ | ⟨p, he, -⟩ | ⟨x, he, hstate, hcode, -⟩ := configure_cases f v s
  · rw [he]; exact ⟨rfl, rfl⟩
  · rw [he]; exact ⟨rfl, rfl⟩
  · rw [he]; exact ⟨rfl, rfl⟩
  · rw [he]; exact ⟨hstate, hcode⟩

/-- Settles O31: SNS_INIT and DEVINIT make the initial sensor, the callbacks move it as `SensorCallback` says, and every other
operation leaves its state and code. -/
theorem sensorTransitions : Obligations.SensorTransitions := by
  intro i s t h
  obtain ⟨st, d, rfl⟩ := eq_respond_effect h
  simp only [respond_sensor]
  refine ⟨?_, fun hinit hdevinit => ?_⟩
  · rintro (rfl | rfl)
    · exact ⟨rfl, rfl⟩
    · exact ⟨rfl, rfl⟩
  · cases i with
    | snsInit => exact absurd rfl hinit
    | devinit => exact absurd rfl hdevinit
    | snsCb => exact (snsCb_transition s).imp_right fun hrow => ⟨.inl rfl, hrow⟩
    | poll => exact (poll_transition s).imp_right fun hrow => ⟨.inr rfl, hrow⟩
    | htrCb => exact .inl (htrCb_diagnostic s)
    | cfgwr id v => exact .inl (fieldWrite_diagnostic id v s)
    | htrOn | htrOff | regwr _ _ => exact .inl (by simp [effect])
    | tickq | snsStart | pidInit | pidCompute _ _ | htrInit | pwmFreq _ | pwmDuty _ | regrd _
    | fldrd _ => exact .inl ⟨rfl, rfl⟩

end Sys2Proof.Machine
end

section
/-! PROOFS. PID_INIT and PID_COMPUTE (42_pid.md R150 to R158): O32, O33, O35 and O36. -/

namespace Sys2Proof.Machine

/-! ## The fields after PID_COMPUTE, in the terms of Safety -/

theorem sat32_eq_saturated (v : Int) : sat32 v = saturated v := by
  rw [sat32_eq_max_min, min_comm, saturated]

theorem absInt_eq_abs (v : Int) : absInt v = |v| := by
  rw [absInt_eq_natAbs, Int.abs_eq_natAbs]

/-- PID_COMPUTE is one step of the PID structure, and its answer is the output (R151). -/
theorem exec_pidCompute_of_pidStep_eq {a b : S32} {s : State} {p : Pid} (h : pidStep s.cfg a b s.pid = p) :
    exec (.pidCompute a b) s = .next { s with pid := p, rsp := some ⟨.ok, p.output⟩ } := by
  subst h; rfl

section
variable (c : Cfg) (a b : S32) (p : Pid)

/-- R152. -/
theorem pidStep_error_saturated : (pidStep c a b p).error.toInt = saturated (a.toInt - b.toInt) :=
  (pidStep_error c a b p).trans (sat32_eq_saturated _)

/-- R153, of the error as stored. -/
theorem pidStep_integral_saturated :
    (pidStep c a b p).integral.toInt =
      if c.pidEpsilon.toInt < |(pidStep c a b p).error.toInt| then
        saturated (p.integral.toInt + (pidStep c a b p).error.toInt)
      else p.integral.toInt := by
  have h := pidStep_integral c a b p
  rw [pidIntegral, absInt_eq_abs, sat32_eq_saturated, ← pidStep_error c a b p] at h
  exact h

/-- R154, of the error as stored. -/
theorem pidStep_derivative_saturated :
    (pidStep c a b p).derivative.toInt = saturated ((pidStep c a b p).error.toInt - p.prevError.toInt) := by
  have h := pidStep_derivative c a b p
  rw [pidDerivative, sat32_eq_saturated, ← pidStep_error c a b p] at h
  exact h

/-- R155 and R156: the sum of the stored terms, rounded once and then clamped, the upper bound first. -/
theorem pidStep_output_of_quotient {q : Int}
    (hq : q = Int.tdiv (10 * p.kp.toInt * (pidStep c a b p).error.toInt + p.ki.toInt * (pidStep c a b p).integral.toInt +
      100 * p.kd.toInt * (pidStep c a b p).derivative.toInt) 1000) :
    (pidStep c a b p).output.toInt =
      if p.outMax.toInt < q then p.outMax.toInt else if q < p.outMin.toInt then p.outMin.toInt else q := by
  have h := pidStep_output c a b p
  rw [pidOutput_eq, ← pidStep_integral c a b p, ← pidStep_derivative c a b p, ← pidStep_error c a b p] at h
  rw [hq]
  exact h

end

/-! ## Equilibrium -/

/-- The PID structure at equilibrium: no error, and for output the integral's share alone (R155). -/
def pidAtRest (p : Pid) : Pid :=
  { p with error := 0, derivative := 0, output := u32 (pidOutput p (s32 p.ki * s32 p.integral)) }

/-- With the measured value at the set-point the error is 0, the integral stays within its dead band and, after an error of 0, the
derivative is 0 too. -/
theorem pidStep_eq_pidAtRest {c : Cfg} {p : Pid} (v : S32) (hprev : p.prevError = 0) (heps : 0 ≤ c.pidEpsilon.toInt) :
    pidStep c v v p = pidAtRest p := by
  have he : pidError v v = 0 := by rw [pidError, sub_self]; rfl
  have hi : pidIntegral c p 0 = s32 p.integral := pidIntegral_deadBand c p 0 heps
  have hd : pidDerivative p 0 = 0 := by rw [pidDerivative, hprev]; rfl
  have hacc : pidAcc p 0 (s32 p.integral) 0 = s32 p.ki * s32 p.integral := by simp [pidAcc]
  simp only [pidStep, pidAtRest, he, hi, hd, hacc, u32_s32]
  rw [hprev]
  rfl

/-- Rounding toward zero takes a magnitude below the divisor to 0 (00_scope.md R13). -/
theorem tdiv_eq_zero_of_abs_lt {a : Int} (h : |a| < 1000) : Int.tdiv a 1000 = 0 := by
  rw [Int.abs_eq_natAbs] at h
  rw [← Int.natAbs_eq_zero, Int.natAbs_tdiv]
  exact Nat.div_eq_of_lt (by omega)

/-- Neither bound moves a share below one LSB (R155, R156). -/
theorem pidOutput_eq_zero {p : Pid} {acc : Int} (hacc : |acc| < 1000) (hmin : p.outMin.toInt ≤ 0) (hmax : 0 ≤ p.outMax.toInt) :
    pidOutput p acc = 0 := by
  have hdiv : Int.tdiv acc 1000 = 0 := tdiv_eq_zero_of_abs_lt hacc
  rw [pidOutput_eq, hdiv]
  exact (if_neg (not_lt.2 hmax)).trans (if_neg (not_lt.2 hmin))

/-! ## Owners of the error history -/

/-- The error history and what PID_COMPUTE derives from it: the fields of R49 to R53. -/
def pidHistory (s : State) : S32 × S32 × S32 × S32 × S32 :=
  (s.pid.error, s.pid.prevError, s.pid.integral, s.pid.derivative, s.pid.output)

theorem pidHistory_ne_iff (s t : State) :
    pidHistory t ≠ pidHistory s ↔
      t.pid.error ≠ s.pid.error ∨ t.pid.prevError ≠ s.pid.prevError ∨ t.pid.integral ≠ s.pid.integral ∨
        t.pid.derivative ≠ s.pid.derivative ∨ t.pid.output ≠ s.pid.output := by
  simp only [pidHistory, ne_eq, Prod.mk.injEq, not_and_or]

theorem pid_ne_of_pidHistory_ne {s t : State} (h : pidHistory t ≠ pidHistory s) : t.pid ≠ s.pid :=
  fun hpid => h (by rw [pidHistory, hpid]; rfl)

/-- The host writes the gains only (R203). -/
theorem hostWrite_pidHistory (a b : U32) (s : State) : pidHistory (hostWrite a b s) = pidHistory s :=
  hostWrite_field pidHistory a b s fun _ _ _ _ => rfl

/-- The cfg fields of the PID are its gains and bounds (R206). -/
theorem fieldWrite_pidHistory (id v : U32) (s : State) : pidHistory (fieldWrite id v s) = pidHistory s := by
  refine fieldWrite_induction (P := fun t => pidHistory t = pidHistory s) id v s rfl fun f => ?_
  obtain he | ⟨h, he, -⟩ | ⟨p, he, herror, hprev, hintegral, hderivative, houtput⟩ | ⟨x, he, -⟩ := configure_cases f v s
  · rw [he]
  · rw [he]; rfl
  · rw [he]; simp only [pidHistory, herror, hprev, hintegral, hderivative, houtput]
  · rw [he]; rfl

/-- The heater is in one of the two states from which HTR_CB may regulate (R173). -/
def Regulating (h : Heater) : Prop := h.state = .heating ∨ h.state = .atTemperature

/-- HTR_CB leaves the PID except where it regulates, and it regulates with validated data only (R173, R178). -/
theorem htrCb_pid_owner {s : State} (h : (htrCb s).pid ≠ s.pid) :
    Regulating s.heater ∧ (htrCb s).sensor.state = .hasData := by
  have hstate : (htrCb s).sensor.state = s.sensor.state := (htrCb_diagnostic s).1
  rw [hstate]
  obtain ⟨-, he⟩ | ⟨-, ⟨-, he⟩ | ⟨hd, ⟨-, he⟩ | ⟨-, he⟩ | ⟨hs, -⟩ | ⟨hs, -⟩⟩⟩ := htrCb_cases s
  · exact absurd (by rw [he]) h
  · exact absurd (by rw [he]; rfl) h
  · exact absurd (by rw [he]; rfl) h
  · exact absurd (by rw [he]; rfl) h
  · exact ⟨.inl hs, hd⟩
  · exact ⟨.inr hs, hd⟩

/-- Of the PID, POLL does no more than the HTR_CB in its 100 ms stage (R115), and no later stage moves the sensor. -/
theorem poll_pid_owner {s : State} (h : (poll s).2.pid ≠ s.pid) :
    Regulating s.heater ∧ (poll s).2.sensor.state = .hasData := by
  have h100ms (hne : (after100ms s).pid ≠ s.pid) : Regulating s.heater ∧ (after100ms s).sensor.state = .hasData := by
    have hcb := htrCb_pid_owner (s := (setCnt100ms 10 (after10ms s)).emit .ms100)
    simp only [emit_pid, setCnt100ms_pid, after10ms_pid, emit_heater, setCnt100ms_heater, after10ms_heater] at hcb
    exact hcb hne
  obtain ⟨-, hp⟩ | ⟨-, ⟨-, hp⟩ | ⟨-, ⟨-, hp⟩ | ⟨-, hp⟩⟩⟩ := poll_cases s
  · exact absurd (by rw [hp]) h
  · exact absurd (by rw [hp]; simp) h
  · rw [hp] at h ⊢; exact h100ms h
  · rw [hp] at h ⊢; exact h100ms h

/-! ## The obligations -/

/-- Settles O32: the initial PID structure is written out in the model as the statement writes it. -/
theorem pidInitResult : Obligations.PidInitResult := fun _ => rfl

/-- Settles O33: the four words are the fields of the PID step, each given by its rule. -/
theorem pidComputeResult : Obligations.PidComputeResult := fun a b s =>
  ⟨_, _, _, _, pidStep_error_saturated s.cfg a b s.pid, pidStep_integral_saturated s.cfg a b s.pid,
    pidStep_derivative_saturated s.cfg a b s.pid, fun _ => pidStep_output_of_quotient s.cfg a b s.pid,
    exec_pidCompute_of_pidStep_eq rfl⟩

/-- Settles O35: a PID structure at rest is at equilibrium again, and at rest it stays as it is. -/
theorem pidEquilibrium : Obligations.PidEquilibrium := by
  intro v s hprev heps
  have hfirst : pidStep s.cfg v v s.pid = pidAtRest s.pid := pidStep_eq_pidAtRest v hprev heps
  have hsecond : pidStep s.cfg v v (pidAtRest s.pid) = pidAtRest s.pid :=
    pidStep_eq_pidAtRest (p := pidAtRest s.pid) v hprev heps
  exact ⟨(pidAtRest s.pid).output, exec_pidCompute_of_pidStep_eq hfirst, exec_pidCompute_of_pidStep_eq hsecond,
    fun hshare hmin hmax => congrArg u32 (pidOutput_eq_zero hshare hmin hmax)⟩

/-- Settles O36: of the owners of the PID structure, REGWR and CFGWR keep its history, and the callbacks own it while regulating. -/
theorem pidHistoryOwners : Obligations.PidHistoryOwners := by
  intro i s t h hne
  obtain ⟨st, d, rfl⟩ := eq_respond_effect h
  have hhistory : pidHistory (effect i s) ≠ pidHistory s := (pidHistory_ne_iff s _).2 hne
  have hpid : (effect i s).pid ≠ s.pid := pid_ne_of_pidHistory_ne hhistory
  obtain rfl | rfl | rfl | rfl | hcompute | ⟨a, b, rfl⟩ | ⟨id, v, rfl⟩ := effect_pid_owner i s hpid
  · exact .inr (.inr (.inl rfl))
  · exact .inr (.inr (.inr ⟨.inr rfl, poll_pid_owner hpid⟩))
  · exact .inr (.inl rfl)
  · exact .inr (.inr (.inr ⟨.inl rfl, htrCb_pid_owner hpid⟩))
  · exact .inl hcompute
  · exact absurd (hostWrite_pidHistory a b s) hhistory
  · exact absurd (fieldWrite_pidHistory id v s) hhistory

end Sys2Proof.Machine
end

section
/-! PROOFS. HTR_INIT, HTR_ON, HTR_OFF and HTR_CB (43_heater.md R170 to R182, 60_exceptions.md R225): O37 to O45 and O47. HTR_CB is first
given by one equation per row of R173; the timed session and the transitions of the heater go through those. -/

namespace Sys2Proof.Machine

/-! ## The output is off -/

theorem outputOff_pwmDuty_zero (s : State) : OutputOff (pwmDuty 0 s) := ⟨rfl, rfl⟩

theorem outputOff_htrInit (s : State) : OutputOff (htrInit s) := outputOff_pwmDuty_zero _

theorem outputOff_heaterShutdown (c : HeaterCode) (s : State) : OutputOff (heaterShutdown c s) := outputOff_pwmDuty_zero _

/-! ## HTR_ON and HTR_OFF, by the heater state -/

theorem htrOn_of_shutdown {s : State} (h : s.heater.state = .shutdown) : htrOn s = setHeaterState .on (htrInit s) := by
  simp [htrOn, h]

theorem htrOn_of_startable {s : State} (h : s.heater.state = .off ∨ s.heater.state = .cooling) :
    htrOn s = setHeaterState .on s := by
  obtain h | h := h <;> simp [htrOn, h]

theorem htrOn_of_running {s : State}
    (h : s.heater.state = .on ∨ s.heater.state = .heating ∨ s.heater.state = .atTemperature) : htrOn s = s := by
  obtain h | h | h := h <;> simp [htrOn, h]

theorem htrOff_of_running {s : State}
    (h : s.heater.state = .on ∨ s.heater.state = .heating ∨ s.heater.state = .atTemperature) :
    htrOff s = pwmDuty 0 (setHeaterState .off s) := by
  obtain h | h | h := h <;> simp [htrOff, h]

theorem htrOff_of_stopped {s : State}
    (h : s.heater.state = .off ∨ s.heater.state = .cooling ∨ s.heater.state = .shutdown) : htrOff s = s := by
  obtain h | h | h := h <;> simp [htrOff, h]

theorem exec_htrOn_of_uninit {s : State} (h : s.heater.state = .uninit) :
    exec .htrOn s = .next { s with rsp := some ⟨.failed, 0⟩ } := if_pos h

theorem exec_htrOff_of_uninit {s : State} (h : s.heater.state = .uninit) :
    exec .htrOff s = .next { s with rsp := some ⟨.failed, 0⟩ } := if_pos h

/-- Past `H_UNINIT`, HTR_ON is its state change, and answers the heater state it leaves (R171). -/
theorem exec_htrOn_of_eq {s t : State} {v : HeaterState} (hs : s.heater.state ≠ .uninit) (h : htrOn s = t)
    (hv : t.heater.state = v) : exec .htrOn s = .next (t.respond .ok ((heaterStateWord v).zeroExtend 32)) := by
  subst h hv
  exact if_neg hs

/-- Past `H_UNINIT`, HTR_OFF is its state change, and answers the heater state it leaves (R172). -/
theorem exec_htrOff_of_eq {s t : State} {v : HeaterState} (hs : s.heater.state ≠ .uninit) (h : htrOff s = t)
    (hv : t.heater.state = v) : exec .htrOff s = .next (t.respond .ok ((heaterStateWord v).zeroExtend 32)) := by
  subst h hv
  exact if_neg hs

/-! ## HTR_CB, by the rows of R173 -/

/-- HTR_CB is its state change, and answers the heater state it leaves (R173). -/
theorem exec_htrCb_of_eq {s t : State} {v : HeaterState} (h : htrCb s = t) (hv : t.heater.state = v) :
    exec .htrCb s = .next (t.respond .ok ((heaterStateWord v).zeroExtend 32)) := by
  subst h hv
  rfl

theorem eq_respond_of_exec_htrCb {s t : State} (h : exec .htrCb s = .next t) : ∃ d, t = (htrCb s).respond .ok d := by
  cases h
  exact ⟨_, rfl⟩

/-- The states in which HTR_CB does anything (R173, step 1). -/
theorem heaterInactive_eq_false (h : Heater) :
    heaterInactive h = false ↔ h.state ≠ .uninit ∧ h.state ≠ .off ∧ h.state ≠ .shutdown := by
  rw [← Bool.not_eq_true, heaterInactive_eq_true, not_or, not_or]

theorem htrCb_of_inactive {s : State} (h : heaterInactive s.heater = true) : htrCb s = s := if_pos h

/-- An active heater without validated data is cut off, the period restarted (R174). -/
theorem htrCb_without_data {s : State} (h : heaterInactive s.heater = false) (hd : s.sensor.state ≠ .hasData) :
    htrCb s = pwmDuty 0 (snsStart s) := by
  simp [htrCb, h, hd]

/-- An active heater with validated data goes on from its reading (R174). -/
theorem htrCb_with_data {s : State} (h : heaterInactive s.heater = false) (hd : s.sensor.state = .hasData) :
    htrCb s = htrCbWithData (withReading s) := by
  simp [htrCb, h, hd, withReading]

/-- R175. -/
theorem htrCb_of_cooling {s : State} (hs : s.heater.state = .cooling) (hd : s.sensor.state = .hasData) :
    htrCb s = withReading s := by
  rw [htrCb_with_data (by simp [heaterInactive, hs]) hd]
  simp [htrCbWithData, withReading, hs]

/-- R176. -/
theorem htrCb_of_on {s : State} (hs : s.heater.state = .on) (hd : s.sensor.state = .hasData) :
    htrCb s = { withReading s with heater := { (withReading s).heater with regulationTimer := 0, state := .heating } } := by
  rw [htrCb_with_data (by simp [heaterInactive, hs]) hd]
  simp [htrCbWithData, withReading, hs]

/-- R179. -/
theorem htrCb_of_atTemperature {s : State} (hs : s.heater.state = .atTemperature) (hd : s.sensor.state = .hasData) :
    htrCb s = regulate (withReading s) := by
  rw [htrCb_with_data (by simp [heaterInactive, hs]) hd]
  simp [htrCbWithData, withReading, hs]

/-- R177: the timer advances, and the diagnostic decides on what comes after. -/
theorem htrCb_of_heating {s : State} (hs : s.heater.state = .heating) (hd : s.sensor.state = .hasData) :
    htrCb s = heatingStep (withReading s) := by
  rw [htrCb_with_data (by simp [heaterInactive, hs]) hd]
  simp [htrCbWithData, withReading, hs]

/-! ## The three ends of a heating callback -/

/-- The ambient check of R177 (b) on the advanced timer and the new reading. -/
def AmbientTimedOut (s : State) : Prop :=
  s.heater.ambientTimeout.toNat ≤ (advanceTimer s.heater).regulationTimer.toNat ∧
    s.sensor.temperature.toInt < s.heater.ambientTemperature.toInt

/-- The regulation check of R177 (c) on the advanced timer and the new reading. -/
def RegulationTimedOut (s : State) : Prop :=
  s.heater.regulationTimeout.toNat ≤ (advanceTimer s.heater).regulationTimer.toNat ∧
    s.sensor.temperature.toInt < s.heater.setpoint.toInt

theorem ambientFires_heatingEntry (s : State) : ambientFires (heatingEntry s).heater = true ↔ AmbientTimedOut s := by
  simp only [ambientFires, Bool.and_eq_true, decide_eq_true_eq]
  rfl

theorem regulationFires_heatingEntry (s : State) :
    regulationFires (heatingEntry s).heater = true ↔ RegulationTimedOut s := by
  simp only [regulationFires, Bool.and_eq_true, decide_eq_true_eq]
  rfl

/-- A diagnostic shuts the heater down (R177). -/
theorem heatingStep_of_diagnostic {s : State} {c : HeaterCode} (hc : c ≠ .ok)
    (h : heatingDiagnostic (advanceTimer s.heater) = c) :
    heatingStep s = heaterShutdown c { s with heater := advanceTimer s.heater } := by
  cases c with
  | ok => exact absurd rfl hc
  | ambientTimedOut | regulationTimedOut => simp [heatingStep, h]

/-- Without a diagnostic the heater regulates (R177, R178). -/
theorem heatingStep_of_ok {s : State} (h : heatingDiagnostic (advanceTimer s.heater) = .ok) :
    heatingStep s = regulate { s with heater := advanceTimer s.heater } := by
  simp [heatingStep, h]

section
variable {s : State} (hs : s.heater.state = .heating) (hd : s.sensor.state = .hasData)
include hs hd

/-- The ambient check decides first (R177 (b)). -/
theorem htrCb_of_ambientTimedOut (ha : AmbientTimedOut s) :
    htrCb s = heaterShutdown .ambientTimedOut (heatingEntry s) := by
  have hdiag : heatingDiagnostic (heatingEntry s).heater = .ambientTimedOut := by
    simp [heatingDiagnostic, (ambientFires_heatingEntry s).2 ha]
  rw [htrCb_of_heating hs hd]
  exact heatingStep_of_diagnostic (by decide) hdiag

/-- The regulation check decides where the ambient check has not (R177 (c)). -/
theorem htrCb_of_regulationTimedOut (ha : ¬ AmbientTimedOut s) (hr : RegulationTimedOut s) :
    htrCb s = heaterShutdown .regulationTimedOut (heatingEntry s) := by
  have hdiag : heatingDiagnostic (heatingEntry s).heater = .regulationTimedOut := by
    simp [heatingDiagnostic, mt (ambientFires_heatingEntry s).1 ha, (regulationFires_heatingEntry s).2 hr]
  rw [htrCb_of_heating hs hd]
  exact heatingStep_of_diagnostic (by decide) hdiag

/-- With neither timeout the callback regulates (R178). -/
theorem htrCb_of_no_timeout (ha : ¬ AmbientTimedOut s) (hr : ¬ RegulationTimedOut s) :
    htrCb s = regulate (heatingEntry s) := by
  have hdiag : heatingDiagnostic (heatingEntry s).heater = .ok := by
    simp [heatingDiagnostic, mt (ambientFires_heatingEntry s).1 ha, mt (regulationFires_heatingEntry s).1 hr]
  rw [htrCb_of_heating hs hd]
  exact heatingStep_of_ok hdiag

end

/-! ## The obligations on one operation -/

/-- Settles O37: the heater of `heaterInitial`, written out, and PWM_DUTY of 0. -/
theorem htrInitResult : Obligations.HtrInitResult := fun _ => rfl

/-- Settles O38: one equation of HTR_ON per heater state. -/
theorem htrOnResult : Obligations.HtrOnResult := by
  intro s
  cases hs : s.heater.state with
  | uninit => exact exec_htrOn_of_uninit hs
  | shutdown => exact exec_htrOn_of_eq (by simp [hs]) (htrOn_of_shutdown hs) rfl
  | off => exact exec_htrOn_of_eq (by simp [hs]) (htrOn_of_startable (.inl hs)) rfl
  | cooling => exact exec_htrOn_of_eq (by simp [hs]) (htrOn_of_startable (.inr hs)) rfl
  | on => exact exec_htrOn_of_eq (by simp [hs]) (htrOn_of_running (.inl hs)) hs
  | heating => exact exec_htrOn_of_eq (by simp [hs]) (htrOn_of_running (.inr (.inl hs))) hs
  | atTemperature => exact exec_htrOn_of_eq (by simp [hs]) (htrOn_of_running (.inr (.inr hs))) hs

/-- Settles O39: one equation of HTR_OFF per heater state. -/
theorem htrOffResult : Obligations.HtrOffResult := by
  intro s
  cases hs : s.heater.state with
  | uninit => exact exec_htrOff_of_uninit hs
  | off => exact exec_htrOff_of_eq (by simp [hs]) (htrOff_of_stopped (.inl hs)) hs
  | cooling => exact exec_htrOff_of_eq (by simp [hs]) (htrOff_of_stopped (.inr (.inl hs))) hs
  | shutdown => exact exec_htrOff_of_eq (by simp [hs]) (htrOff_of_stopped (.inr (.inr hs))) hs
  | on => exact exec_htrOff_of_eq (by simp [hs]) (htrOff_of_running (.inl hs)) rfl
  | heating => exact exec_htrOff_of_eq (by simp [hs]) (htrOff_of_running (.inr (.inl hs))) rfl
  | atTemperature => exact exec_htrOff_of_eq (by simp [hs]) (htrOff_of_running (.inr (.inr hs))) rfl

/-- Settles O40: the rows of R173 up to `H_HEATING`. -/
theorem htrCbBeforeHeating : Obligations.HtrCbBeforeHeating := by
  refine fun s => ⟨fun hs => ?_, fun hu hoff hshut hd => ?_, fun hs hd => ?_, fun hs hd => ?_⟩
  · exact exec_htrCb_of_eq (htrCb_of_inactive ((heaterInactive_eq_true s.heater).2 hs)) rfl
  · exact exec_htrCb_of_eq (htrCb_without_data ((heaterInactive_eq_false s.heater).2 ⟨hu, hoff, hshut⟩) hd) rfl
  · exact exec_htrCb_of_eq (htrCb_of_cooling hs hd) hs
  · exact exec_htrCb_of_eq (htrCb_of_on hs hd) rfl

/-- Settles O41: the three ends of a heating callback; `regulate` is PID_COMPUTE and then PWM_DUTY of its output. -/
theorem htrCbHeating : Obligations.HtrCbHeating := by
  intro s hs hd
  refine ⟨(advanceTimer s.heater).regulationTimer, by rw [advanceTimer_toNat, min_comm], fun ha => ?_, fun ha hr => ?_,
    fun ha hr => ⟨_, _, rfl, rfl, ?_⟩⟩
  · exact exec_htrCb_of_eq (htrCb_of_ambientTimedOut hs hd ha) rfl
  · exact exec_htrCb_of_eq (htrCb_of_regulationTimedOut hs hd ha hr) rfl
  · exact exec_htrCb_of_eq (htrCb_of_no_timeout hs hd ha hr) hs

/-- Settles O42: `regulate` on the reading, with the timer as it was. -/
theorem htrCbAtTemperature : Obligations.HtrCbAtTemperature := fun _ hs hd =>
  ⟨_, _, rfl, rfl, exec_htrCb_of_eq (htrCb_of_atTemperature hs hd) hs, hs, rfl⟩

/-- Settles O44: the recovered heater is `H_ON` with timer and code clear, and both rows of R173 from `H_ON` keep the code. -/
theorem recoveryReachesHeating : Obligations.RecoveryReachesHeating := by
  intro s hs
  refine ⟨_, exec_htrOn_of_eq (by simp [hs]) (htrOn_of_shutdown hs) rfl, rfl, rfl, rfl, fun r hr => ?_⟩
  have hon : r.heater.state = .on := by rw [hr]; rfl
  have hcode : r.heater.code = .ok := by rw [hr]; rfl
  refine ⟨fun hd => ?_, fun hd => ?_⟩
  · have hcb := htrCb_without_data (by simp [heaterInactive, hon]) hd
    exact ⟨_, exec_htrCb_of_eq hcb rfl, hr, outputOff_pwmDuty_zero _⟩
  · exact ⟨_, exec_htrCb_of_eq (htrCb_of_on hon hd) rfl, rfl, rfl, hcode⟩

/-! ## The timed session -/

/-- The session that the ambient timeout ends after `T` callbacks, `k` of them done (R182 (1)). -/
structure ColdSession (T k : Nat) (h : Heater) : Prop where
  /-- Still heating. -/
  state : h.state = .heating
  /-- The timer counts the callbacks since the one that entered `H_HEATING`. -/
  timer : h.regulationTimer.toNat = k
  /-- The session's length is the configured one. -/
  timeout : h.ambientTimeout.toNat = T

/-- The session speaks of three fields of the heater only. -/
theorem ColdSession.congr {T k : Nat} {h h' : Heater} (hc : ColdSession T k h) (hstate : h'.state = h.state)
    (htimer : h'.regulationTimer = h.regulationTimer) (htimeout : h'.ambientTimeout = h.ambientTimeout) :
    ColdSession T k h' :=
  ⟨hstate.trans hc.state, by rw [htimer, hc.timer], by rw [htimeout, hc.timeout]⟩

/-- The callback from `H_ON` begins the session (R176). -/
theorem coldSession_of_on {T : Nat} {s : State} (hs : s.heater.state = .on) (hT : s.heater.ambientTimeout.toNat = T)
    (hd : s.sensor.state = .hasData) : ColdSession T 0 (htrCb s).heater := by
  rw [htrCb_of_on hs hd]
  exact ⟨rfl, rfl, hT⟩

section
variable {T k : Nat} {s : State} (hc : ColdSession T k s.heater) (hd : s.sensor.state = .hasData)
include hc

/-- Up to its timeout the timer is far from saturation. -/
theorem ColdSession.timer_advances (hk : k < T) : (advanceTimer s.heater).regulationTimer.toNat = k + 1 := by
  have hadv := advanceTimer_toNat s.heater
  have hlt := s.heater.ambientTimeout.isLt
  have htimer := hc.timer
  have htimeout := hc.timeout
  omega

include hd

/-- Before the last tick no check fires, and the callback counts one tick (R177). -/
theorem ColdSession.next (hk : k + 1 < T) (hreg : T ≤ s.heater.regulationTimeout.toNat) :
    ColdSession T (k + 1) (htrCb s).heater := by
  have hadv := hc.timer_advances (by omega)
  have htimeout := hc.timeout
  have ha : ¬ AmbientTimedOut s := fun ⟨h, _⟩ => by omega
  have hr : ¬ RegulationTimedOut s := fun ⟨h, _⟩ => by omega
  rw [htrCb_of_no_timeout hc.state hd ha hr]
  exact ⟨hc.state, hadv, htimeout⟩

/-- At the last tick the ambient check fires (R177 (b)). -/
theorem ColdSession.last (hk : k + 1 = T) (hcold : s.sensor.temperature.toInt < s.heater.ambientTemperature.toInt) :
    htrCb s = heaterShutdown .ambientTimedOut (heatingEntry s) := by
  have hadv := hc.timer_advances (by omega)
  have htimeout := hc.timeout
  exact htrCb_of_ambientTimedOut hc.state hd ⟨by omega, hcold⟩

end

/-- Settles O43: the callback from `H_ON` begins the session, and by induction each one before `T` counts a tick of it, so that the
one at `T` is the session's last. -/
theorem ambientTimeoutExact : Obligations.AmbientTimeoutExact := by
  intro w u T hT hon htimeout hexec hcold hbetween
  have hsession : ∀ k < T, ColdSession T k (u k).heater := by
    intro k
    induction k with
    | zero =>
      intro h0
      obtain ⟨hd, -⟩ := hcold 0 (by omega)
      obtain ⟨d, hu⟩ := eq_respond_of_exec_htrCb (hexec 0 (by omega))
      rw [hu]
      exact coldSession_of_on hon htimeout hd
    | succ k ih =>
      intro hk
      obtain ⟨hd, -, hreg⟩ := hcold (k + 1) hk.le
      obtain ⟨hstate, htimer, hambient⟩ := hbetween k (by omega)
      obtain ⟨d, hu⟩ := eq_respond_of_exec_htrCb (hexec (k + 1) hk.le)
      have hbefore : ColdSession T k (w (k + 1)).heater := (ih (by omega)).congr hstate htimer hambient
      rw [hu]
      exact hbefore.next hd hk hreg
  obtain ⟨k, rfl⟩ : ∃ k, T = k + 1 := ⟨T - 1, by omega⟩
  obtain ⟨hd, hlow, -⟩ := hcold (k + 1) le_rfl
  obtain ⟨hstate, htimer, hambient⟩ := hbetween k (by omega)
  obtain ⟨d, hu⟩ := eq_respond_of_exec_htrCb (hexec (k + 1) le_rfl)
  have hbefore : ColdSession (k + 1) k (w (k + 1)).heater := (hsession k (by omega)).congr hstate htimer hambient
  rw [hbefore.last hd rfl hlow] at hu
  refine ⟨fun j hj => ⟨(hsession j hj).state, (hsession j hj).timer⟩, ?_⟩
  rw [hu]
  exact ⟨rfl, rfl, outputOff_heaterShutdown _ _⟩

/-! ## Transitions of the heater state -/

/-- What a callback can do to the heater's state and code: leave them, enter `H_HEATING` with the timer at 0, or latch a timeout with
the output off (R181). -/
def HeaterCallback (before : Heater) (after : State) : Prop :=
  (after.heater.state = before.state ∧ after.heater.code = before.code) ∨
    (before.state = .on ∧ after.sensor.state = .hasData ∧ after.heater.state = .heating ∧ after.heater.code = before.code ∧
      after.heater.regulationTimer = 0) ∨
    (before.state = .heating ∧ after.sensor.state = .hasData ∧ after.heater.state = .shutdown ∧
      (after.heater.code = .ambientTimedOut ∨ after.heater.code = .regulationTimedOut) ∧ OutputOff after)

theorem htrCb_transition (s : State) : HeaterCallback s.heater (htrCb s) := by
  obtain ⟨-, h⟩ | ⟨-, ⟨-, h⟩ | ⟨hd, ⟨-, h⟩ | ⟨hon, h⟩ | ⟨hheat, ⟨-, h⟩ | ⟨-, -, h⟩ | ⟨-, -, h⟩⟩ | ⟨-, h⟩⟩⟩ := htrCb_cases s
  · rw [h]; exact .inl ⟨rfl, rfl⟩
  · rw [h]; exact .inl ⟨rfl, rfl⟩
  · rw [h]; exact .inl ⟨rfl, rfl⟩
  · rw [h]; exact .inr (.inl ⟨hon, hd, rfl, rfl, rfl⟩)
  · rw [h]; exact .inr (.inr ⟨hheat, hd, rfl, .inl rfl, outputOff_heaterShutdown _ _⟩)
  · rw [h]; exact .inr (.inr ⟨hheat, hd, rfl, .inr rfl, outputOff_heaterShutdown _ _⟩)
  · rw [h]; exact .inl ⟨rfl, rfl⟩
  · rw [h]; exact .inl ⟨rfl, rfl⟩

/-- POLL performs at most one HTR_CB, after an SNS_CB that leaves the heater (R115). -/
theorem poll_heaterCallback (s : State) : HeaterCallback s.heater (poll s).2 := by
  have h100ms : HeaterCallback s.heater (after100ms s) := by
    have hcb := htrCb_transition ((setCnt100ms 10 (after10ms s)).emit .ms100)
    rwa [emit_heater, setCnt100ms_heater, after10ms_heater] at hcb
  obtain ⟨-, hp⟩ | ⟨-, ⟨-, hp⟩ | ⟨-, ⟨-, hp⟩ | ⟨-, hp⟩⟩⟩ := poll_cases s
  · rw [hp]; exact .inl ⟨rfl, rfl⟩
  · rw [hp]; exact .inl (by simp)
  · rw [hp]; exact h100ms
  · rw [hp]; exact h100ms

/-- The host writes the set-point of the heater only (R203). -/
theorem hostWrite_heaterStatus (a b : U32) (s : State) :
    (hostWrite a b s).heater.state = s.heater.state ∧ (hostWrite a b s).heater.code = s.heater.code := by
  obtain ⟨setpoint, kp, ki, kd, h⟩ := hostWrite_eq_withHostFields a b s
  rw [h]; exact ⟨rfl, rfl⟩

/-- Neither state nor code of the heater is a cfg field (R206). -/
theorem fieldWrite_heaterStatus (id v : U32) (s : State) :
    (fieldWrite id v s).heater.state = s.heater.state ∧ (fieldWrite id v s).heater.code = s.heater.code := by
  refine fieldWrite_induction (P := fun t => t.heater.state = s.heater.state ∧ t.heater.code = s.heater.code) id v s
    ⟨rfl, rfl⟩ fun f => ?_
  obtain h | ⟨x, h, hstate, hcode, -⟩ | ⟨p, h, -⟩ | ⟨x, h, -⟩ := configure_cases f v s
  · rw [h]; exact ⟨rfl, rfl⟩
  · rw [h]; exact ⟨hstate, hcode⟩
  · rw [h]; exact ⟨rfl, rfl⟩
  · rw [h]; exact ⟨rfl, rfl⟩

/-- The transitions of HTR_ON (R171). -/
theorem htrOn_transition (s : State) :
    (htrOn s = s) ∨
      ((s.heater.state = .off ∨ s.heater.state = .cooling) ∧ (htrOn s).heater.state = .on ∧
        (htrOn s).heater.code = s.heater.code) ∨
      (s.heater.state = .shutdown ∧ (htrOn s).heater.state = .on ∧ (htrOn s).heater.code = .ok ∧ OutputOff (htrOn s)) := by
  obtain ⟨hs, h⟩ | ⟨hs, h⟩ | ⟨-, h⟩ := htrOn_cases s
  · rw [h]; exact .inr (.inr ⟨hs, rfl, rfl, outputOff_htrInit s⟩)
  · rw [h]; exact .inr (.inl ⟨hs, rfl, rfl⟩)
  · exact .inl h

/-- The transitions of HTR_OFF (R172). -/
theorem htrOff_transition (s : State) :
    (htrOff s = s) ∨
      ((s.heater.state = .on ∨ s.heater.state = .heating ∨ s.heater.state = .atTemperature) ∧
        (htrOff s).heater.state = .off ∧ (htrOff s).heater.code = s.heater.code ∧ OutputOff (htrOff s)) := by
  obtain ⟨hs, h⟩ | ⟨-, h⟩ := htrOff_cases s
  · rw [h]; exact .inr ⟨hs, rfl, rfl, outputOff_pwmDuty_zero _⟩
  · exact .inl h

/-- Settles O45: the callbacks move the heater as `HeaterCallback` says, the initialisations make the initial one, HTR_ON and HTR_OFF go
by their cases, and every other operation leaves state and code. -/
theorem heaterTransitions : Obligations.HeaterTransitions := by
  intro i s t h
  obtain ⟨st, d, rfl⟩ := eq_respond_effect h
  by_cases hi : i = .htrCb ∨ i = .poll
  · have hcallback : HeaterCallback s.heater (effect i s) := by
      obtain rfl | rfl := hi
      · exact htrCb_transition s
      · exact poll_heaterCallback s
    obtain hsame | henter | hlatch := hcallback
    · exact .inl hsame
    · exact .inr (.inr (.inr (.inr (.inr (.inl ⟨hi, henter⟩)))))
    · exact .inr (.inr (.inr (.inr (.inr (.inr ⟨hi, hlatch⟩)))))
  · cases i with
    | htrCb | poll => simp at hi
    | htrInit => exact .inr (.inl ⟨.inl rfl, rfl, rfl, outputOff_htrInit s⟩)
    | devinit => exact .inr (.inl ⟨.inr rfl, rfl, rfl, outputOff_htrInit _⟩)
    | htrOn =>
      obtain hsame | hstart | hrecover := htrOn_transition s
      · exact .inl (by simp [effect, hsame])
      · exact .inr (.inr (.inl ⟨rfl, hstart⟩))
      · exact .inr (.inr (.inr (.inl ⟨rfl, hrecover⟩)))
    | htrOff =>
      obtain hsame | hstop := htrOff_transition s
      · exact .inl (by simp [effect, hsame])
      · exact .inr (.inr (.inr (.inr (.inl ⟨rfl, hstop⟩))))
    | regwr a b => exact .inl (hostWrite_heaterStatus a b s)
    | cfgwr id v => exact .inl (fieldWrite_heaterStatus id v s)
    | snsCb => exact .inl (by simp [effect])
    | tickq | snsInit | snsStart | pidInit | pidCompute _ _ | pwmFreq _ | pwmDuty _ | regrd _
    | fldrd _ => exact .inl ⟨rfl, rfl⟩

/-! ## Failures -/

/-- The state change of an operation and its response, where the response is OK or there was no state change (R220, R221). -/
def SucceedsOrKeeps (i : Instr) (s : State) : Prop :=
  ∃ st d, exec i s = .next ((effect i s).respond st d) ∧ (st = .ok ∨ effect i s = s)

/-- HTR_ON fails from `H_UNINIT`, where it changes nothing (R171). -/
theorem htrOn_succeedsOrKeeps (s : State) : SucceedsOrKeeps .htrOn s := by
  by_cases hs : s.heater.state = .uninit
  · have hkeep : effect .htrOn s = s := htrOn_of_uninit hs
    exact ⟨.failed, 0, by rw [hkeep]; exact exec_htrOn_of_uninit hs, .inr hkeep⟩
  · exact ⟨.ok, _, exec_htrOn_of_eq hs rfl rfl, .inl rfl⟩

/-- HTR_OFF fails from `H_UNINIT`, where it changes nothing (R172). -/
theorem htrOff_succeedsOrKeeps (s : State) : SucceedsOrKeeps .htrOff s := by
  by_cases hs : s.heater.state = .uninit
  · have hkeep : effect .htrOff s = s := htrOff_of_uninit hs
    exact ⟨.failed, 0, by rw [hkeep]; exact exec_htrOff_of_uninit hs, .inr hkeep⟩
  · exact ⟨.ok, _, exec_htrOff_of_eq hs rfl rfl, .inl rfl⟩

/-- REGWR fails past the register file, where it writes nothing (R201). -/
theorem regwr_succeedsOrKeeps (addr b : U32) (s : State) : SucceedsOrKeeps (.regwr addr b) s := by
  simp only [SucceedsOrKeeps, effect, exec, execRegwr, hostWrite]
  cases memWrite addr.toNat (dataByte b) s with
  | some _ => exact ⟨_, _, rfl, .inl rfl⟩
  | none => exact ⟨_, _, rfl, .inr rfl⟩

/-- CFGWR refuses an id or a value, and then configures nothing (R206 to R208). -/
theorem cfgwr_succeedsOrKeeps (id v : U32) (s : State) : SucceedsOrKeeps (.cfgwr id v) s := by
  simp only [SucceedsOrKeeps, effect, exec, execCfgwr, fieldWrite]
  cases fieldRow id with
  | none => exact ⟨_, _, rfl, .inr rfl⟩
  | some r =>
    dsimp only
    split
    · exact ⟨_, _, rfl, .inl rfl⟩
    · exact ⟨_, _, rfl, .inr rfl⟩

/-- Every operation answers OK or changes nothing but the response (R220). -/
theorem exec_succeedsOrKeeps (i : Instr) (s : State) : SucceedsOrKeeps i s := by
  cases i with
  | htrOn => exact htrOn_succeedsOrKeeps s
  | htrOff => exact htrOff_succeedsOrKeeps s
  | regwr a b => exact regwr_succeedsOrKeeps a b s
  | cfgwr id v => exact cfgwr_succeedsOrKeeps id v s
  | regrd _ | fldrd _ =>
    obtain ⟨st, d, h⟩ := exec_eq_effect _ s
    exact ⟨st, d, h, .inr rfl⟩
  | devinit | tickq | poll | snsInit | snsStart | snsCb | pidInit | pidCompute _ _ | htrInit | htrCb | pwmFreq _
  | pwmDuty _ => exact ⟨_, _, rfl, .inl rfl⟩

/-- A failed operation has left the state but for its response (R220). -/
theorem eq_of_exec_failure {i : Instr} {s t : State} {r : Response} (h : exec i s = .next t) (hr : t.rsp = some r)
    (hfail : r.status ≠ .ok) : t = { s with rsp := some r } := by
  obtain ⟨st, d, he, hcase⟩ := exec_succeedsOrKeeps i s
  rw [he] at h
  cases h
  cases hr
  obtain hok | hkeep := hcase
  · exact absurd hok hfail
  · rw [hkeep]; rfl

/-- Settles O47: of the transitions into `H_SHUTDOWN` only a timeout is left (O45); the row of R173 without data; and a failed operation
changes nothing. -/
theorem failureTurnsOutputOff : Obligations.FailureTurnsOutputOff := by
  refine ⟨fun i s t h hbefore hafter => ?_, fun s hs hd => ?_, fun i s t r h hr hfail => ?_⟩
  · obtain ⟨hsame, -⟩ | ⟨-, hv, -⟩ | ⟨-, -, hv, -⟩ | ⟨-, -, hv, -⟩ | ⟨-, -, hv, -⟩ | ⟨-, -, -, hv, -⟩ |
        ⟨-, -, -, -, -, hoff⟩ := heaterTransitions i s t h
    · exact absurd (hsame.symm.trans hafter) hbefore
    · simp [hv] at hafter
    · simp [hv] at hafter
    · simp [hv] at hafter
    · simp [hv] at hafter
    · simp [hv] at hafter
    · exact hoff
  · have hactive : heaterInactive s.heater = false := by
      obtain hs | hs | hs | hs := hs <;> simp [heaterInactive, hs]
    exact ⟨_, exec_htrCb_of_eq (htrCb_without_data hactive hd) rfl, outputOff_pwmDuty_zero _, rfl⟩
  · rw [eq_of_exec_failure h hr hfail]

end Sys2Proof.Machine
end

section
/-! PROOFS. PWM_FREQ and PWM_DUTY (44_pwm.md R191, R192) and the driver's fraction after a PWM_DUTY (R194): O20 to O22. The operations are
first given by their next states, and mode and compare value by the three ranges of the percentage; the fraction goes through those. -/

namespace Sys2Proof.Machine

/-! ## PWM_FREQ -/

/-- The next state of PWM_FREQ, field by field (R191). -/
theorem exec_pwmFreq (hz : U32) (s : State) :
    exec (.pwmFreq hz) s =
      .next { s with
        pwm := { s.pwm with top := pwmTopFor s.cfg hz }
        dev := { s.dev with pwmFreq := pwmFreqFor s.cfg (pwmTopFor s.cfg hz) }
        trace := s.trace ++ [.pwm s.pwm.mode (pwmTopFor s.cfg hz) s.pwm.compare]
        rsp := some ⟨.ok, pwmTopFor s.cfg hz⟩ } := rfl

theorem one_le_pwmTopFor {c : Cfg} (h : c.wellFormed = true) (hz : U32) : 1 ≤ (pwmTopFor c hz).toNat := by
  obtain ⟨-, -, hmin, -⟩ := (wellFormed_iff c).mp h
  exact hmin.trans (pwmTopFor_range h hz).1

/-- The effective frequency is at most the clock, so it fits U32 (R191). -/
theorem pwmFreqFor_le_clk {c : Cfg} (h : c.wellFormed = true) {top : U32} (ht : 1 ≤ top.toNat) :
    (pwmFreqFor c top).toNat ≤ c.clkHz.toNat := by
  rw [pwmFreqFor_toNat h ht]
  exact Nat.div_le_self _ _

/-! ## PWM_DUTY -/

/-- The next state of PWM_DUTY, field by field (R192). -/
theorem exec_pwmDuty (p : S32) (s : State) :
    exec (.pwmDuty p) s =
      .next { s with
        pwm := { s.pwm with mode := pwmModeFor p.toInt, compare := pwmCompareFor s.pwm.top p.toInt }
        trace := s.trace ++ [.pwm (pwmModeFor p.toInt) s.pwm.top (pwmCompareFor s.pwm.top p.toInt)]
        rsp := some ⟨.ok, pwmCompareFor s.pwm.top p.toInt⟩ } := rfl

section
variable {p : Int}

theorem pwmModeFor_of_nonpos (h : p ≤ 0) : pwmModeFor p = .off := if_pos h

theorem pwmModeFor_of_gt (h : 10000 < p) : pwmModeFor p = .on := by
  rw [pwmModeFor, if_neg (by omega), if_pos h]

theorem pwmModeFor_of_pos_of_le (hpos : 0 < p) (hle : p ≤ 10000) : pwmModeFor p = .run := by
  rw [pwmModeFor, if_neg (not_le.mpr hpos), if_neg (not_lt.mpr hle)]

theorem pwmCompareFor_of_nonpos (top : U32) (h : p ≤ 0) : pwmCompareFor top p = 0 := by
  rw [pwmCompareFor, pwmModeFor_of_nonpos h]

theorem pwmCompareFor_of_gt (top : U32) (h : 10000 < p) : pwmCompareFor top p = top := by
  rw [pwmCompareFor, pwmModeFor_of_gt h]

end

/-! ## The driver's fraction -/

theorem driverFraction_of_off {w : Pwm} (h : w.mode = .off) : driverFraction w = 0 := by
  rw [driverFraction, h]

theorem driverFraction_of_on {w : Pwm} (h : w.mode = .on) : driverFraction w = 1 := by
  rw [driverFraction, h]

/-- In `PWM_RUN` the fraction is compare over top, as long as the compare value is not above the top-value, where it is free (R194). For a
top-value of 0 the quotient of rationals is R194's 0. -/
theorem driverFraction_of_run {w : Pwm} (h : w.mode = .run) (hle : w.compare.toNat ≤ w.top.toNat) :
    driverFraction w = (w.compare.toNat : ℚ) / (w.top.toNat : ℚ) := by
  have habove : ¬ w.compare > w.top := BitVec.not_lt.mpr (BitVec.le_def.mpr hle)
  by_cases htop : w.top = 0
  · simp [driverFraction, h, htop]
  · simp only [driverFraction, h, if_neg htop, if_neg habove]

/-- A mode that is not `PWM_RUN` decides the fraction alone, and in `PWM_RUN` a compare value up to the top-value keeps it within [0, 1]. -/
theorem driverFraction_range {w : Pwm} (hle : w.compare.toNat ≤ w.top.toNat) :
    0 ≤ driverFraction w ∧ driverFraction w ≤ 1 := by
  cases hmode : w.mode with
  | off => rw [driverFraction_of_off hmode]; exact ⟨le_rfl, zero_le_one⟩
  | on => rw [driverFraction_of_on hmode]; exact ⟨zero_le_one, le_rfl⟩
  | run =>
    rw [driverFraction_of_run hmode hle]
    exact ⟨by positivity, div_le_one_of_le₀ (by exact_mod_cast hle) (by positivity)⟩

/-- The floor in the compare value rounds the fraction down: it is at most the percentage asked for (R192). -/
theorem pwmCompareFor_div_top_le (top : U32) {p : Int} (hpos : 0 < p) (hle : p ≤ 10000) :
    ((pwmCompareFor top p).toNat : ℚ) / (top.toNat : ℚ) ≤ (p : ℚ) / 10000 := by
  have hp : ((p.toNat : ℕ) : ℚ) = (p : ℚ) := by exact_mod_cast Int.toNat_of_nonneg hpos.le
  have hfloor : ((top.toNat * p.toNat / 10000 : ℕ) : ℚ) ≤ (p : ℚ) / 10000 * top.toNat :=
    calc ((top.toNat * p.toNat / 10000 : ℕ) : ℚ)
        ≤ ((top.toNat * p.toNat : ℕ) : ℚ) / ((10000 : ℕ) : ℚ) := Nat.cast_div_le
      _ = (p : ℚ) / 10000 * top.toNat := by rw [Nat.cast_mul, hp]; push_cast; ring
  rw [pwmCompareFor_run hpos hle]
  exact div_le_of_le_mul₀ (by positivity) (by rw [← hp]; positivity) hfloor

/-! ## The obligations -/

/-- Settles O20: the next state of `exec_pwmFreq`, its top-value and frequency by the laws of the limiter. -/
theorem pwmFreqResult : Obligations.PwmFreqResult := by
  intro hz s hwf
  have htop := one_le_pwmTopFor hwf hz
  refine ⟨_, _, ?_, htop, pwmFreqFor_toNat hwf htop, pwmFreqFor_le_clk hwf htop, exec_pwmFreq hz s⟩
  rw [pwmTopFor_toNat hwf, pwmTopRaw_eq hwf]

/-- Settles O21: the next state of `exec_pwmDuty`, its mode and compare value by the range of the percentage. -/
theorem pwmDutyResult : Obligations.PwmDutyResult := fun p s =>
  ⟨_, _, exec_pwmDuty p s,
    fun hoff => ⟨pwmModeFor_of_nonpos hoff, pwmCompareFor_of_nonpos _ hoff⟩,
    fun hon => ⟨pwmModeFor_of_gt hon, pwmCompareFor_of_gt _ hon⟩,
    fun hpos hle => ⟨pwmModeFor_of_pos_of_le hpos hle, pwmCompareFor_run hpos hle, pwmCompareFor_le _ _⟩⟩

/-- Settles O22: PWM_DUTY leaves a compare value up to the top-value, so the driver's fraction is never the free one, and the mode says
which it is. -/
theorem dutyFractionBounded : Obligations.DutyFractionBounded := by
  intro p s
  have hcompare := pwmCompareFor_le s.pwm.top p.toInt
  obtain ⟨hnonneg, hle_one⟩ := driverFraction_range (w := (pwmDuty p.toInt s).pwm) hcompare
  refine ⟨_, exec_pwmDuty p s, hnonneg, hle_one, fun hoff => driverFraction_of_off (pwmModeFor_of_nonpos hoff),
    fun hon => driverFraction_of_on (pwmModeFor_of_gt hon), fun hpos hle => ?_⟩
  have hrun := driverFraction_of_run (w := (pwmDuty p.toInt s).pwm) (pwmModeFor_of_pos_of_le hpos hle) hcompare
  exact ⟨hrun, hrun.trans_le (pwmCompareFor_div_top_le _ hpos hle)⟩

end Sys2Proof.Machine
end

section
/-! PROOFS. The host's two operations (45_register_interface.md R200, R201, R203) and CFGWR (R206 to R208): O48, O49, O50 and O52. REGRD
and REGWR are first given as functions of the register file, which the statements on the host then read off. -/

namespace Sys2Proof.Machine

/-! ## The register file, as the memory of R72 and R73 -/

@[simp] theorem registerFile_length (s : State) : (registerFile s).length = 24 := rfl

theorem registerFile_respond (s : State) (st : Status) (d : U32) : registerFile (s.respond st d) = registerFile s := rfl

theorem memRead_eq_getElem? (a : Nat) (s : State) : memRead a s = (registerFile s)[a]? := by
  by_cases ha : a < 24
  · exact (memRead_registerFile s a ha).trans (List.getElem?_eq_getElem ha).symm
  · have hout : 24 ≤ a := Nat.le_of_not_lt ha
    rw [(memRead_eq_none_iff a s).mpr hout, List.getElem?_eq_none hout]

/-- The addresses of the read-write bytes (R76). -/
def HostWritable (a : Nat) : Prop := (0x02 ≤ a ∧ a < 0x06) ∨ (0x0C ≤ a ∧ a < 0x18)

/-- The read-write rows of the map are the writable addresses. -/
theorem regRow_rw_iff {a : Nat} {q : RegRow} (hq : regRow a = some q) : q.rw = true ↔ HostWritable a := by
  have hrows : ∀ q ∈ regMap,
      (q.rw = true ∧ ((0x02 ≤ q.offset ∧ q.offset + q.bytes ≤ 0x06) ∨ (0x0C ≤ q.offset ∧ q.offset + q.bytes ≤ 0x18))) ∨
        (q.rw = false ∧ (q.offset + q.bytes ≤ 0x02 ∨ (0x06 ≤ q.offset ∧ q.offset + q.bytes ≤ 0x0C))) := by decide
  obtain ⟨hmem, hlo, hhi⟩ := regRow_mem hq
  unfold HostWritable
  obtain ⟨hrw, hrange⟩ | ⟨hro, hrange⟩ := hrows q hmem
  · exact iff_of_true hrw (by omega)
  · exact iff_of_false (by rw [hro]; decide) (by omega)

theorem exists_regRow_of_hostWritable {a : Nat} (h : HostWritable a) : ∃ q, regRow a = some q ∧ q.rw = true := by
  have hlt : a < 24 := by unfold HostWritable at h; omega
  obtain ⟨q, hq⟩ := Option.isSome_iff_exists.mp ((regRow_isSome_iff a).mpr hlt)
  exact ⟨q, hq, (regRow_rw_iff hq).mpr h⟩

/-! ## REGRD and REGWR, by the register file -/

/-- What REGRD answers to a host that sees these bytes (R200). -/
def regrdAnswer (a : U32) (bytes : List U8) : Response :=
  match bytes[a.toNat]? with
  | some b => ⟨.ok, b.zeroExtend 32⟩
  | none => ⟨.invalidAddress, 0⟩

theorem regrdAnswer_of_lt {a : U32} {bytes : List U8} (h : a.toNat < bytes.length) :
    regrdAnswer a bytes = ⟨.ok, (bytes[a.toNat]'h).zeroExtend 32⟩ := by
  rw [regrdAnswer, List.getElem?_eq_getElem h]

theorem regrdAnswer_of_le {a : U32} {bytes : List U8} (h : bytes.length ≤ a.toNat) :
    regrdAnswer a bytes = ⟨.invalidAddress, 0⟩ := by
  rw [regrdAnswer, List.getElem?_eq_none h]

theorem exec_regrd (a : U32) (s : State) :
    exec (.regrd a) s = .next { s with rsp := some (regrdAnswer a (registerFile s)) } := by
  change execRegrd a s = _
  rw [execRegrd, regrdAnswer, memRead_eq_getElem?]
  cases (registerFile s)[a.toNat]? with
  | some _ => rfl
  | none => rfl

/-- What REGWR answers: the address alone decides (R201). -/
def regwrAnswer (a : U32) : Response := ⟨if a.toNat < 24 then .ok else .invalidAddress, 0⟩

theorem exec_regwr (a b : U32) (s : State) :
    exec (.regwr a b) s = .next { hostWrite a b s with rsp := some (regwrAnswer a) } := by
  have hnone := memWrite_eq_none_iff a.toNat (dataByte b) s
  change execRegwr a b s = _
  unfold execRegwr hostWrite regwrAnswer
  cases h : memWrite a.toNat (dataByte b) s with
  | none =>
    have hout : ¬ a.toNat < 24 := Nat.not_lt.mpr (hnone.mp h)
    rw [if_neg hout]; rfl
  | some t =>
    have hin : a.toNat < 24 := Nat.lt_of_not_le fun hout => by rw [hnone.mpr hout] at h; cases h
    rw [if_pos hin]; rfl

/-- A write outside the read-write bytes changes nothing (R73, R77). -/
theorem hostWrite_of_not_writable {a : U32} (h : ¬ HostWritable a.toNat) (b : U32) (s : State) : hostWrite a b s = s := by
  obtain he | ⟨q, hq, hrw, -⟩ := hostWrite_cases a b s
  · exact he
  · exact absurd ((regRow_rw_iff hq).mp hrw) h

theorem hostWrite_of_rw {a : U32} {q : RegRow} (hq : regRow a.toNat = some q) (hrw : q.rw = true) (b : U32) (s : State) :
    hostWrite a b s = configure q.field (withByte (image q.field s) (a.toNat - q.offset) (dataByte b)) s := by
  have hspr : ∀ q ∈ regMap, q.field ≠ .snsSpr := by decide
  rw [hostWrite, memWrite, hq, Option.map_some, Option.getD_some, if_pos hrw, configure, if_neg (hspr q (regRow_mem hq).1)]

/-- The byte written is read back (R72, R73). -/
theorem memRead_hostWrite_same {a : U32} (h : HostWritable a.toNat) (b : U32) (s : State) :
    memRead a.toNat (hostWrite a b s) = some (dataByte b) := by
  obtain ⟨q, hq, hrw⟩ := exists_regRow_of_hostWritable h
  obtain ⟨hmem, hlo, hhi⟩ := regRow_mem hq
  have hbytes := regMap_bytes_le q hmem
  rw [memRead_of_regRow hq, hostWrite_of_rw hq hrw, image_configure_same hmem hrw, byteOf_withByte_same _ _ _ (by omega)]

/-- A write to a read-write byte replaces it in the register file and no other (R73, R201). -/
theorem registerFile_hostWrite {a : U32} (h : HostWritable a.toNat) (b : U32) (s : State) :
    registerFile (hostWrite a b s) = (registerFile s).set a.toNat (dataByte b) := by
  obtain ⟨q, hq, hrw⟩ := exists_regRow_of_hostWritable h
  have hlt : a.toNat < (registerFile s).length := (regRow_isSome_iff _).mp (Option.isSome_of_mem hq)
  apply List.ext_getElem?
  intro n
  rw [← memRead_eq_getElem?]
  by_cases hn : a.toNat = n
  · subst hn
    rw [memRead_hostWrite_same h, List.getElem?_set_self hlt]
  · have hother : n ∉ storedAddresses (.regwr a b) := by
      rw [storedAddresses_regwr hq hrw, List.mem_singleton]
      exact Ne.symm hn
    rw [memRead_hostWrite hother, memRead_eq_getElem?, List.getElem?_set_ne hn]

/-- The register file after a write depends on the register file before it only (R203). -/
theorem registerFile_hostWrite_congr (a b : U32) {s s' : State} (h : registerFile s = registerFile s') :
    registerFile (hostWrite a b s) = registerFile (hostWrite a b s') := by
  by_cases hw : HostWritable a.toNat
  · rw [registerFile_hostWrite hw, registerFile_hostWrite hw, h]
  · rw [hostWrite_of_not_writable hw, hostWrite_of_not_writable hw, h]

/-- Settles O48: the answer of REGRD inside and outside the 24 bytes. -/
theorem regrdResult : Obligations.RegrdResult := by
  intro a s
  refine ⟨fun h => ?_, registerFile_length s, fun h => ?_⟩
  · rw [exec_regrd, regrdAnswer_of_lt h]
  · rw [exec_regrd, regrdAnswer_of_le (by rwa [registerFile_length])]

/-- Settles O49: outside the read-write bytes the write does nothing, and there it is one byte of the register file. -/
theorem regwrResult : Obligations.RegwrResult := by
  intro a b s
  refine ⟨fun hout => ?_, fun hro => ?_, fun hrw => ?_⟩
  · have hw : ¬ HostWritable a.toNat := by unfold HostWritable; omega
    rw [exec_regwr, hostWrite_of_not_writable hw, regwrAnswer, if_neg (Nat.not_lt.mpr hout)]
  · have hw : ¬ HostWritable a.toNat := by unfold HostWritable; omega
    rw [exec_regwr, hostWrite_of_not_writable hw, regwrAnswer, if_pos (by omega)]
  · obtain ⟨setpoint, kp, ki, kd, he⟩ := hostWrite_eq_withHostFields a b s
    refine ⟨setpoint, kp, ki, kd, (hostWrite a b s).respond .ok 0, ?_, by rw [he]; rfl, ?_⟩
    · rw [exec_regwr, regwrAnswer, if_pos (by omega)]; rfl
    · rw [registerFile_respond]
      exact registerFile_hostWrite hrw b s

/-! ## The host -/

/-- The host's two operations (R232). -/
theorem hostMayIssue_iff (i : Instr) :
    i.hostMayIssue = true ↔ (∃ a, i = .regrd a) ∨ ∃ a b, i = .regwr a b := by
  cases i with
  | regrd a => exact iff_of_true rfl (.inl ⟨a, rfl⟩)
  | regwr a b => exact iff_of_true rfl (.inr ⟨a, b, rfl⟩)
  | _ => exact iff_of_false nofun nofun

/-- Settles O50: REGRD and REGWR by their equations, which read the state through the register file alone. -/
theorem hostCannotReach : Obligations.HostCannotReach := by
  refine ⟨fun i s hi => ?_, fun i s s' t t' hi hfile ht ht' => ?_⟩
  · obtain ⟨a, rfl⟩ | ⟨a, b, rfl⟩ := (hostMayIssue_iff i).mp hi
    · exact ⟨s.heater.setpoint, s.pid.kp, s.pid.ki, s.pid.kd, _, exec_regrd a s⟩
    · obtain ⟨setpoint, kp, ki, kd, he⟩ := hostWrite_eq_withHostFields a b s
      exact ⟨setpoint, kp, ki, kd, _, by rw [exec_regwr, he]⟩
  · obtain ⟨a, rfl⟩ | ⟨a, b, rfl⟩ := (hostMayIssue_iff i).mp hi
    · rw [exec_regrd] at ht ht'
      cases ht
      cases ht'
      exact ⟨congrArg (fun bytes => some (regrdAnswer a bytes)) hfile, hfile⟩
    · rw [exec_regwr] at ht ht'
      cases ht
      cases ht'
      exact ⟨rfl, registerFile_hostWrite_congr a b hfile⟩

/-! ## CFGWR, by the id's row and the value -/

theorem valueFits_of_ne_u8 {t : FieldType} (h : t ≠ .u8) (v : U32) : valueFits t v = true := by
  simp [valueFits, h]

theorem valueFits_u8_iff (v : U32) : valueFits .u8 v = true ↔ v.toNat ≤ 255 := by
  simp [valueFits]

theorem exec_cfgwr_of_fits {id : U32} {r : FieldRow} (hr : fieldRow id = some r) (hcfg : r.cfg = true) {v : U32}
    (hfits : valueFits r.type v = true) (s : State) : exec (.cfgwr id v) s = .next ((configure r.field v s).respond .ok 0) := by
  change execCfgwr id v s = _
  simp [execCfgwr, hr, hcfg, hfits]

/-- A field of a type other than U8 accepts every pattern (R208). -/
theorem exec_cfgwr_of_word {id : U32} {r : FieldRow} (hr : fieldRow id = some r) (hcfg : r.cfg = true) (htype : r.type ≠ .u8)
    (v : U32) (s : State) : exec (.cfgwr id v) s = .next ((configure r.field v s).respond .ok 0) :=
  exec_cfgwr_of_fits hr hcfg (valueFits_of_ne_u8 htype v) s

theorem exec_cfgwr_of_not_fits {id : U32} {r : FieldRow} (hr : fieldRow id = some r) {v : U32}
    (hfits : ¬ valueFits r.type v = true) (s : State) :
    exec (.cfgwr id v) s = .next { s with rsp := some ⟨.invalidField, 0⟩ } := by
  change execCfgwr id v s = _
  simp [execCfgwr, hr, hfits, State.respond]

/-- An id without a row, and one whose row is not cfg, are refused alike (R206). -/
theorem exec_cfgwr_of_not_cfg {id : U32} (h : id.toNat ∉ cfgIds) (v : U32) (s : State) :
    exec (.cfgwr id v) s = .next { s with rsp := some ⟨.invalidField, 0⟩ } := by
  change execCfgwr id v s = _
  unfold execCfgwr
  cases hr : fieldRow id with
  | none => rfl
  | some r =>
    have hcfg : ¬ r.cfg = true := fun hc => h ((mem_cfgIds_iff id).mpr ⟨r, hr, hc⟩)
    simp [hcfg, State.respond]

theorem fieldRow_spr : fieldRow 0x22 = some ⟨0x22, .snsSpr, .u8, true⟩ := rfl

theorem fieldRow_retries : fieldRow 0x24 = some ⟨0x24, .snsRetries, .u8, true⟩ := rfl

/-- A value of 0 to 255 is the byte a U8 field takes (R206, R208). -/
theorem toNat_lowByte {v : U32} (h : v.toNat ≤ 255) : (v.extractLsb' 0 8).toNat = v.toNat := by
  rw [BitVec.extractLsb'_toNat, Nat.shiftRight_zero]
  exact Nat.mod_eq_of_lt (Nat.lt_succ_of_le h)

/-- Settles O52: the 13 fields of 32 bits in the order of their ids, the two U8 fields by the value, and the other ids. -/
theorem cfgwrResult : Obligations.CfgwrResult := fun v s =>
  ⟨exec_cfgwr_of_word (id := 0x13) rfl rfl nofun v s,
    exec_cfgwr_of_word (id := 0x15) rfl rfl nofun v s,
    exec_cfgwr_of_word (id := 0x16) rfl rfl nofun v s,
    exec_cfgwr_of_word (id := 0x17) rfl rfl nofun v s,
    exec_cfgwr_of_word (id := 0x18) rfl rfl nofun v s,
    exec_cfgwr_of_word (id := 0x29) rfl rfl nofun v s,
    exec_cfgwr_of_word (id := 0x2A) rfl rfl nofun v s,
    exec_cfgwr_of_word (id := 0x2B) rfl rfl nofun v s,
    exec_cfgwr_of_word (id := 0x35) rfl rfl nofun v s,
    exec_cfgwr_of_word (id := 0x36) rfl rfl nofun v s,
    exec_cfgwr_of_word (id := 0x37) rfl rfl nofun v s,
    exec_cfgwr_of_word (id := 0x38) rfl rfl nofun v s,
    exec_cfgwr_of_word (id := 0x39) rfl rfl nofun v s,
    fun hle =>
      have hfits := (valueFits_u8_iff v).mpr hle
      ⟨v.extractLsb' 0 8, toNat_lowByte hle, exec_cfgwr_of_fits fieldRow_spr rfl hfits s,
        exec_cfgwr_of_fits fieldRow_retries rfl hfits s⟩,
    fun hgt =>
      have hfits : ¬ valueFits .u8 v = true := fun hf => Nat.not_lt.mpr ((valueFits_u8_iff v).mp hf) hgt
      ⟨exec_cfgwr_of_not_fits fieldRow_spr hfits s, exec_cfgwr_of_not_fits fieldRow_retries hfits s⟩,
    fun _ hid => exec_cfgwr_of_not_cfg hid v s⟩

end Sys2Proof.Machine
end

section
/-! PROOFS. The statuses of the responses (60_exceptions.md R220, R221): O10 and O11. One function gives the status of every operation in
every state; the causes of each failure are read off it. -/

namespace Sys2Proof.Machine

/-! ## The status of an operation -/

/-- The status an operation answers (R221). `exec_answersAs` ties it to `exec`. -/
def answerStatus (i : Instr) (s : State) : Status :=
  match i with
  | .htrOn | .htrOff => if s.heater.state = .uninit then .failed else .ok
  | .regrd a | .regwr a _ => if 24 ≤ a.toNat then .invalidAddress else .ok
  | .fldrd id => if id.toNat ∉ definedIds then .invalidField else .ok
  | .cfgwr id v => if id.toNat ∉ cfgIds ∨ ((id = 0x22 ∨ id = 0x24) ∧ 255 < v.toNat) then .invalidField else .ok
  | .devinit | .tickq | .poll | .snsInit | .snsStart | .snsCb | .pidInit | .pidCompute _ _ | .htrInit | .htrCb | .pwmFreq _
  | .pwmDuty _ => .ok

/-- The operation answers with this status, and with data 0 unless the status is OK. -/
def AnswersAs (st : Status) (i : Instr) (s : State) : Prop :=
  ∃ (t : State) (d : U32), exec i s = .next (t.respond st d) ∧ (st = .ok ∨ d = 0)

theorem answersAs_ok {i : Instr} {s t : State} {d : U32} (h : exec i s = .next (t.respond .ok d)) : AnswersAs .ok i s :=
  ⟨t, d, h, .inl rfl⟩

/-- An operation with one cause of failure: refused with data 0 where the cause holds, OK elsewhere. -/
theorem answersAs_ite {cause : Prop} [Decidable cause] {st : Status} {i : Instr} {s : State}
    (hfail : cause → exec i s = .next { s with rsp := some ⟨st, 0⟩ }) (hok : ¬cause → AnswersAs .ok i s) :
    AnswersAs (if cause then st else .ok) i s := by
  split
  · next hcause => exact ⟨s, 0, hfail hcause, .inr rfl⟩
  · next hcause => exact hok hcause

/-! ## The operations that can fail -/

theorem htrOn_answersAs (s : State) : AnswersAs (answerStatus .htrOn s) .htrOn s :=
  answersAs_ite exec_htrOn_of_uninit fun hs => answersAs_ok (exec_htrOn_of_eq hs rfl rfl)

theorem htrOff_answersAs (s : State) : AnswersAs (answerStatus .htrOff s) .htrOff s :=
  answersAs_ite exec_htrOff_of_uninit fun hs => answersAs_ok (exec_htrOff_of_eq hs rfl rfl)

theorem regrd_answersAs (a : U32) (s : State) : AnswersAs (answerStatus (.regrd a) s) (.regrd a) s := by
  obtain ⟨hin, -, hout⟩ := regrdResult a s
  exact answersAs_ite hout fun ha => answersAs_ok (t := s) (hin (Nat.lt_of_not_le ha))

theorem regwr_answersAs (a b : U32) (s : State) : AnswersAs (answerStatus (.regwr a b) s) (.regwr a b) s := by
  obtain ⟨hout, -⟩ := regwrResult a b s
  refine answersAs_ite hout fun ha => answersAs_ok (t := hostWrite a b s) (d := 0) ?_
  rw [exec_regwr, regwrAnswer, if_pos (Nat.lt_of_not_le ha)]
  rfl

theorem fldrd_answersAs (id : U32) (s : State) : AnswersAs (answerStatus (.fldrd id) s) (.fldrd id) s := by
  refine answersAs_ite (fun hid => exec_fldrd_of_undefined hid s) fun hid => ?_
  obtain ⟨r, hr⟩ := Option.ne_none_iff_exists'.mp (mt (fieldRow_eq_none_iff id).mp hid)
  exact answersAs_ok (t := s) (exec_fldrd_of_row hr s)

/-- The cfg fields of type U8 are `sensor.spr` and `sensor.retries` (R59, R206). -/
theorem spr_or_retries_of_u8 {id : U32} {r : FieldRow} (hr : fieldRow id = some r) (hcfg : r.cfg = true)
    (htype : r.type = .u8) : id = 0x22 ∨ id = 0x24 := by
  have hrows : ∀ r ∈ fieldTable, r.cfg = true → r.type = .u8 → r.id = 0x22 ∨ r.id = 0x24 := by decide
  obtain ⟨hmem, hid⟩ := fieldRow_mem hr
  have hids := hrows r hmem hcfg htype
  rw [hid] at hids
  exact hids.imp BitVec.eq_of_toNat_eq BitVec.eq_of_toNat_eq

/-- A value fits the field of a cfg id, unless the field is a U8 one and the value is above 255 (R208). -/
theorem valueFits_of_cfg {id v : U32} {r : FieldRow} (hr : fieldRow id = some r) (hcfg : r.cfg = true)
    (hvalue : ¬((id = 0x22 ∨ id = 0x24) ∧ 255 < v.toNat)) : valueFits r.type v = true := by
  by_cases htype : r.type = .u8
  · rw [htype, valueFits_u8_iff]
    exact Nat.le_of_not_lt fun hgt => hvalue ⟨spr_or_retries_of_u8 hr hcfg htype, hgt⟩
  · exact valueFits_of_ne_u8 htype v

theorem cfgwr_answersAs (id v : U32) (s : State) : AnswersAs (answerStatus (.cfgwr id v) s) (.cfgwr id v) s := by
  refine answersAs_ite (fun hrefused => ?_) fun haccepted => ?_
  · obtain hid | ⟨rfl | rfl, hgt⟩ := hrefused
    · exact exec_cfgwr_of_not_cfg hid v s
    · exact exec_cfgwr_of_not_fits fieldRow_spr (mt (valueFits_u8_iff v).mp (Nat.not_le.mpr hgt)) s
    · exact exec_cfgwr_of_not_fits fieldRow_retries (mt (valueFits_u8_iff v).mp (Nat.not_le.mpr hgt)) s
  · obtain ⟨hid, hvalue⟩ := not_or.mp haccepted
    obtain ⟨r, hr, hcfg⟩ := (mem_cfgIds_iff id).mp (not_not.mp hid)
    exact answersAs_ok (exec_cfgwr_of_fits hr hcfg (valueFits_of_cfg hr hcfg hvalue) s)

/-- Every operation answers with the status of `answerStatus` (R221). -/
theorem exec_answersAs (i : Instr) (s : State) : AnswersAs (answerStatus i s) i s := by
  cases i with
  | htrOn => exact htrOn_answersAs s
  | htrOff => exact htrOff_answersAs s
  | regrd a => exact regrd_answersAs a s
  | regwr a b => exact regwr_answersAs a b s
  | fldrd id => exact fldrd_answersAs id s
  | cfgwr id v => exact cfgwr_answersAs id v s
  | devinit | tickq | poll | snsInit | snsStart | snsCb | pidInit | pidCompute _ _ | htrInit | htrCb | pwmFreq _
  | pwmDuty _ => exact answersAs_ok rfl

/-! ## The causes of the failures -/

theorem ite_status_eq_iff {cause : Prop} [Decidable cause] {st : Status} (h : Status.ok ≠ st) :
    (if cause then st else .ok) = st ↔ cause := by
  simp [h]

theorem ite_status_ne {cause : Prop} [Decidable cause] {st st' : Status} (h : st ≠ st') (hok : .ok ≠ st') :
    (if cause then st else .ok) ≠ st' := by
  split
  · exact h
  · exact hok

theorem answerStatus_eq_invalidAddress_iff (i : Instr) (s : State) : answerStatus i s = .invalidAddress ↔
    ∃ a, 24 ≤ a.toNat ∧ (i = .regrd a ∨ ∃ b, i = .regwr a b) := by
  cases i with
  | regrd _ | regwr _ _ => exact Iff.trans (ite_status_eq_iff nofun) (by simp)
  | htrOn | htrOff | fldrd _ | cfgwr _ _ => exact iff_of_false (ite_status_ne nofun nofun) (by simp)
  | _ => exact iff_of_false nofun (by simp)

theorem answerStatus_eq_failed_iff (i : Instr) (s : State) : answerStatus i s = .failed ↔
    s.heater.state = .uninit ∧ (i = .htrOn ∨ i = .htrOff) := by
  cases i with
  | htrOn | htrOff => exact Iff.trans (ite_status_eq_iff nofun) (by simp)
  | regrd _ | regwr _ _ | fldrd _ | cfgwr _ _ => exact iff_of_false (ite_status_ne nofun nofun) (by simp)
  | _ => exact iff_of_false nofun (by simp)

theorem answerStatus_ne_illegalOp (i : Instr) (s : State) : answerStatus i s ≠ .illegalOp := by
  cases i with
  | htrOn | htrOff | regrd _ | regwr _ _ | fldrd _ | cfgwr _ _ => exact ite_status_ne nofun nofun
  | _ => exact nofun

theorem answerStatus_eq_invalidField_iff (i : Instr) (s : State) : answerStatus i s = .invalidField ↔
    (∃ id, i = .fldrd id ∧ id.toNat ∉ definedIds) ∨
      ∃ id v, i = .cfgwr id v ∧ (id.toNat ∉ cfgIds ∨ ((id = 0x22 ∨ id = 0x24) ∧ 255 < v.toNat)) := by
  cases i with
  | fldrd _ | cfgwr _ _ => exact Iff.trans (ite_status_eq_iff nofun) (by simp)
  | htrOn | htrOff | regrd _ | regwr _ _ => exact iff_of_false (ite_status_ne nofun nofun) (by simp)
  | _ => exact iff_of_false nofun (by simp)

/-- A command word that carries no operation is one with an illegal opcode (R95). -/
theorem step_of_no_instr {s : State} {w : CmdWord} {rest : List Input} (h : s.inputs = .command w :: rest)
    (hd : ∀ i, decode w ≠ .instr i) : step s = .next { s with inputs := rest, rsp := some ⟨.illegalOp, 0⟩ } := by
  cases hw : decode w with
  | instr i => exact absurd hw (hd i)
  | illegalOp _ => exact step_of_command_illegal h hw

/-! ## The obligations -/

/-- Settles O11: the status of the answer is `answerStatus`, whose values have the stated causes; and the illegal command word. -/
theorem failureStatusCauses : Obligations.FailureStatusCauses := by
  refine ⟨fun i s => ?_, fun _ _ _ => step_of_no_instr⟩
  obtain ⟨t, d, he, hdata⟩ := exec_answersAs i s
  exact ⟨t.respond (answerStatus i s) d, ⟨answerStatus i s, d⟩, he, rfl, answerStatus_eq_invalidAddress_iff i s,
    answerStatus_eq_failed_iff i s, answerStatus_ne_illegalOp i s, answerStatus_eq_invalidField_iff i s,
    fun hfail => ⟨hdata.resolve_left hfail, eq_of_exec_failure he rfl hfail⟩⟩

/-- Settles O10: an operation is its state change and then its response, and a failed one has left the state as it was. -/
theorem everyOperationCompletes : Obligations.EveryOperationCompletes := by
  intro i s
  obtain ⟨st, d, he⟩ := exec_eq_effect i s
  exact ⟨(effect i s).respond st d, ⟨st, d⟩, he, effect_inputs i s, rfl, eq_of_exec_failure he rfl⟩

end Sys2Proof.Machine
end

section
/-! PROOFS. The machine after reset (70_reset_and_hazards.md R250): the count of the cadences from reset and from DEVINIT, the fields that
FLDRD reads, and the invariant; O18, O53 and O54. -/

namespace Sys2Proof.Machine

/-! ## The start of the count -/

/-- With both counters reloaded, the count starts from the events of before (R119). -/
theorem cadencesOk_reloaded (b10 b100 b1 : Nat) :
    CadencesOk b10 b100 b1 { cnt100ms := 10, cnt1s := 10, ms10 := b10, ms100 := b100, s1 := b1 } :=
  ⟨by simp, 0, 0, 0, rfl, rfl, rfl, rfl, rfl⟩

theorem cadences_resetWith (c : Cfg) :
    cadences (State.resetWith c) = { cnt100ms := 10, cnt1s := 10, ms10 := 0, ms100 := 0, s1 := 0 } := rfl

theorem cadences_devReset (s : State) : cadences (devReset s) = { cadences s with cnt100ms := 10, cnt1s := 10 } := rfl

/-- DEVINIT reloads the counters and appends no event of a cadence (R116). -/
theorem cadences_devInit (s : State) : cadences (devInit s) = { cadences s with cnt100ms := 10, cnt1s := 10 } :=
  calc cadences (devInit s)
    _ = cadences (pidInit (snsInit (pwmDuty 0 (pwmFreq s.cfg.pwmFreqHz (devReset s))))) := cadences_htrInit _
    _ = cadences (pwmDuty 0 (pwmFreq s.cfg.pwmFreqHz (devReset s))) := rfl
    _ = cadences (devReset s) := by rw [cadences_pwmDuty, cadences_pwmFreq]
    _ = { cadences s with cnt100ms := 10, cnt1s := 10 } := cadences_devReset s

/-! ## The fields after reset -/

theorem image_resetWith (f : Field) (c : Cfg) :
    image f (State.resetWith c) = if f = .devCnt100ms ∨ f = .devCnt1s then 10 else 0 := by
  cases f with
  | devCnt100ms | devCnt1s => rfl
  | snsAccHi =>
    change ((0 : S40).extractLsb' 32 8).signExtend 32 = (0 : U32)
    decide
  | _ => rfl

/-- The ids of the two counters are 0x01 and 0x02, and no other row is theirs (R59). -/
theorem counter_of_fieldRow {id : U32} {r : FieldRow} (h : fieldRow id = some r) :
    (r.field = .devCnt100ms ∨ r.field = .devCnt1s) ↔ (id = 0x01 ∨ id = 0x02) := by
  have hrows : ∀ r ∈ fieldTable, (r.field = .devCnt100ms ∨ r.field = .devCnt1s) ↔ (r.id = 0x01 ∨ r.id = 0x02) := by decide
  obtain ⟨hmem, hid⟩ := fieldRow_mem h
  rw [hrows r hmem, hid, ← BitVec.toNat_inj, ← BitVec.toNat_inj]
  rfl

/-! ## The invariant after reset -/

theorem safeState_resetWith {c : Cfg} (h : c.wellFormed = true) : SafeState (State.resetWith c) := by
  have hdev : DeviceSafe (State.resetWith c).dev := by simp [DeviceSafe, State.resetWith]
  have hdiag : DiagnosticSafe (State.resetWith c).sensor := ⟨iff_of_false nofun nofun, nofun, fun _ => rfl⟩
  have hheater : HeaterSafe (State.resetWith c).heater := ⟨iff_of_false nofun (not_not.mpr rfl), nofun, nofun⟩
  have htop : TopSafe c (State.resetWith c).pwm.top := .inl rfl
  exact (safeState_iff _).mpr ⟨h, hdev, ⟨periodSafe_of_samples_eq_zero rfl, hdiag⟩, hheater, rfl, htop⟩

theorem outputOff_resetWith (c : Cfg) : OutputOff (State.resetWith c) := ⟨rfl, rfl⟩

theorem wellFormed_default : Cfg.default.wellFormed = true := by decide

/-! ## The obligations -/

/-- Settles O18: both at reset and after DEVINIT the counters are reloaded, and no event of a cadence has been added. -/
theorem noDriftStarts : Obligations.NoDriftStarts := by
  refine ⟨fun c => ?_, fun s => ⟨(devInit s).respond .ok 0, rfl, ?_⟩⟩
  · rw [← cadencesOk_iff, cadences_resetWith]
    exact cadencesOk_reloaded 0 0 0
  · rw [← cadencesOk_iff, cadences_respond, cadences_devInit]
    exact cadencesOk_reloaded ..

/-- Settles O53: a defined id has a row, and the row's field reads 10 if it is a counter and 0 if not. -/
theorem resetState : Obligations.ResetState := by
  refine fun c => ⟨fun id hid => ?_, rfl, rfl⟩
  obtain ⟨r, hr⟩ := Option.ne_none_iff_exists'.mp (mt (fieldRow_eq_none_iff id).mp (not_not.mpr hid))
  simp only [exec_fldrd_of_row hr, image_resetWith, counter_of_fieldRow hr]

/-- Settles O54: the default configuration is a well-formed one. -/
theorem resetIsSafe : Obligations.ResetIsSafe :=
  ⟨fun c h => ⟨safeState_resetWith h, outputOff_resetWith c⟩, safeState_resetWith wellFormed_default,
    outputOff_resetWith Cfg.default⟩

end Sys2Proof.Machine
end
